-- ==== Sys2Proof/Word.lean ====
section
/-! DEFINITION. The words of the K24: bytes of the link, lane sets, 32-bit wrapping counters, and
the index types of lanes, patterns, timing sets, slots and snapshots (00, Conventions). -/

namespace Sys2Proof

/-- One byte of a frame (R168). -/
abbrev Byte := BitVec 8

/-- A lane set: "a 24-bit mask in which bit n stands for LNn" (00, Lane sets). -/
abbrev LaneSet := BitVec 24

/-- The step counter, the generations and the active version: 32 bits, wrapping (00, Counters). -/
abbrev Count32 := BitVec 32

/-- A lane LN0..LN23. -/
abbrev Lane := Fin 24

/-- A pattern id 0..31 (R19). -/
abbrev PatternId := Fin 32

/-- A timing set number 0..3 (R40). -/
abbrev TimingId := Fin 4

/-- A slot index 0..15 (R57). -/
abbrev SlotIndex := Fin 16

/-- A snapshot number 0..3 (R116). -/
abbrev SnapshotId := Fin 4

/-- One value for each of the 24 lanes. -/
abbrev Lanes (α : Type) := Vector α 24

end Sys2Proof
end

