-- ==== Sys2Proof/Syntax.lean ====
section
/-! DEFINITION. The commands of the K24: one constructor for each row of spec/opcode_table.json. A
request's operands are its tag and its payload bytes, which hold its arguments in the order of the
request kind table (R177, R178); an event's operands are the outside levels it samples. -/

namespace Sys2Proof

/-- A frame of either direction, less its start byte, length byte and CRC, which follow from it
(R168). -/
structure LinkFrame where
  tag     : Byte
  kind    : Byte
  payload : List Byte
  deriving DecidableEq, Repr

/-- A request of a kind given by its row: tag and payload (R168, R178). -/
structure Req where
  tag     : Byte
  payload : List Byte
  deriving DecidableEq, Repr

/-- One of the two trigger inputs (R161). -/
inductive TrigInput
  | trgA
  | trgB
  deriving DecidableEq, Repr

/-- What the assembly under test does to the lane pins at the moment they are sensed (R7): the lanes
it holds, and the level at which it holds each of those. A lane outside `holds` is left to the part's
driver, or to the weak pull-down (log 6). -/
structure Assembly where
  holds  : LaneSet
  levels : LaneSet
  deriving DecidableEq, Repr

/-- The 70 rows of the table of operations and events. -/
inductive Instr
  /-- FULL_RESET (R176): the straps, BAUD1 as bit 1 and BAUD0 as bit 0. -/
  | fullReset (straps : BitVec 2)
  /-- START_UP_END (R176): the levels then sensed on TRGA and TRGB. -/
  | startUpEnd (levelA levelB : Bool)
  /-- FRAME_COMPLETE (R170): the frame whose last CRC byte has arrived and agreed. -/
  | frameComplete (f : LinkFrame)
  /-- BYTE_GAP_TIMEOUT (R169). -/
  | byteGapTimeout
  /-- FRAME_SENT (R172). -/
  | frameSent
  /-- BAD_KIND (R171): a request whose kind is not in the request kind table. -/
  | badKind (f : LinkFrame)
  /-- STATUS (R99). -/
  | status (r : Req)
  /-- POSITION (R98). -/
  | position (r : Req)
  /-- RESET_ENGINE (R100). -/
  | resetEngine (r : Req)
  /-- NOTICE_MASK (R173): mask (2). -/
  | noticeMask (r : Req)
  /-- SET_BANK (R11): bank, mode, invert, enable. -/
  | setBank (r : Req)
  /-- SET_IDLE_POLICY (R9): policy. -/
  | setIdlePolicy (r : Req)
  /-- STAGE_STATIC (R12): vector record (13). -/
  | stageStatic (r : Req)
  /-- APPLY_STATIC (R13). -/
  | applyStatic (r : Req)
  /-- READ_LANES (R14), with the assembly's hold on the pins when the request is served. -/
  | readLanes (r : Req) (a : Assembly)
  /-- DEFINE_PATTERN (R23): id, length (2). -/
  | definePattern (r : Req)
  /-- DEFINE_GENERATOR (R24): id, kind, lane mask (3), seed (3), step, length (2), expect mode. -/
  | defineGenerator (r : Req)
  /-- WRITE_VECTORS (R31): id, start (2), count, count vector records. -/
  | writeVectors (r : Req)
  /-- READ_VECTORS (R32): id, start (2), count. -/
  | readVectors (r : Req)
  /-- DELETE_PATTERN (R33): id. -/
  | deletePattern (r : Req)
  /-- LIST_PATTERNS (R34). -/
  | listPatterns (r : Req)
  /-- PACK_STORE (R36). -/
  | packStore (r : Req)
  /-- PACK_COMPLETE (R37). -/
  | packComplete
  /-- SET_TIMING (R41): set, period ns (4), strobe ns (4), rounding mode, strict. -/
  | setTiming (r : Req)
  /-- READ_TIMING (R46): set. -/
  | readTiming (r : Req)
  /-- EDIT_SLOT (R61): index, pattern id, dwell, direction, timing set. -/
  | editSlot (r : Req)
  /-- SET_SLOT_COUNT (R62): count. -/
  | setSlotCount (r : Req)
  /-- READ_ROTATION (R63): which. -/
  | readRotation (r : Req)
  /-- COMMIT_ROTATION (R64). -/
  | commitRotation (r : Req)
  /-- WITHDRAW_COMMIT (R70). -/
  | withdrawCommit (r : Req)
  /-- ARM (R76): mode, stop-on-fail count, wait timeout (2), clear-at-start. -/
  | arm (r : Req)
  /-- DISARM (R77). -/
  | disarm (r : Req)
  /-- START (R78). -/
  | start (r : Req)
  /-- STOP (R93). -/
  | stop (r : Req)
  /-- HOLD (R89). -/
  | hold (r : Req)
  /-- CONTINUE (R90). -/
  | continueRun (r : Req)
  /-- RELEASE (R88). -/
  | release (r : Req)
  /-- ADVANCE (R83). -/
  | advance (r : Req)
  /-- SPLICE (R103): pattern id, timing set, skip-on-return. -/
  | splice (r : Req)
  /-- SUSPEND (R117): snapshot. -/
  | suspend (r : Req)
  /-- RESUME (R120): snapshot. -/
  | resume (r : Req)
  /-- READ_SNAPSHOT (R124): snapshot. -/
  | readSnapshot (r : Req)
  /-- LOAD_SNAPSHOT (R124): snapshot, then the record. -/
  | loadSnapshot (r : Req)
  /-- DISCARD_SNAPSHOT (R125): snapshot. -/
  | discardSnapshot (r : Req)
  /-- SET_CHECK (R139): fault threshold, quarantine limit, quarantine action. -/
  | setCheck (r : Req)
  /-- CLEAR_LANE (R140): lane set (3). -/
  | clearLane (r : Req)
  /-- READ_FAILS (R141): max. -/
  | readFails (r : Req)
  /-- READ_COUNTS (R142). -/
  | readCounts (r : Req)
  /-- SURVEY (R148): timing set, lane set (3). -/
  | survey (r : Req)
  /-- READ_NET_MAP (R156). -/
  | readNetMap (r : Req)
  /-- LOAD_REFERENCE (R157): 24 times presence, expected set (3). -/
  | loadReference (r : Req)
  /-- ADOPT_REFERENCE (R158). -/
  | adoptReference (r : Req)
  /-- CLEAR_REFERENCE (R158). -/
  | clearReference (r : Req)
  /-- SET_TRIGGER (R162): input, edge, action, preset pattern id, preset timing set, preset skip. -/
  | setTrigger (r : Req)
  /-- CAPTURE (R166). -/
  | capture (r : Req)
  /-- READ_CAPTURE (R166). -/
  | readCapture (r : Req)
  /-- TRIGGER_LEVEL_CHANGE (R161): the input whose level changes. -/
  | triggerLevelChange (input : TrigInput)
  /-- START_TRIGGER (R163). -/
  | startTrigger (input : TrigInput)
  /-- STOP_TRIGGER (R163). -/
  | stopTrigger (input : TrigInput)
  /-- RELEASE_TRIGGER (R163). -/
  | releaseTrigger (input : TrigInput)
  /-- ADVANCE_TRIGGER (R163). -/
  | advanceTrigger (input : TrigInput)
  /-- CAPTURE_TRIGGER (R165). -/
  | captureTrigger (input : TrigInput)
  /-- SPLICE_TRIGGER (R113). -/
  | spliceTrigger (input : TrigInput)
  /-- STROBE (R86), with the assembly's hold on the pins at the strobe. -/
  | strobe (a : Assembly)
  /-- STEP_END (R87). -/
  | stepEnd
  /-- WAIT_TIMEOUT (R91). -/
  | waitTimeout
  /-- SURVEY_STROBE (R151), with the assembly's hold on the pins at the strobe. -/
  | surveyStrobe (a : Assembly)
  /-- SURVEY_STEP_END (R152). -/
  | surveyStepEnd
  /-- CHARACTER_RECEIVED (R169): the character's byte, and whether its stop bit was there. -/
  | characterReceived (b : Byte) (stopBit : Bool)
  /-- RESETN_DEASSERTED (R176): the straps, as for FULL_RESET. -/
  | resetnDeasserted (straps : BitVec 2)
  deriving DecidableEq, Repr

end Sys2Proof
end

