-- ==== Sys2Proof/Decode.lean ====
section
/-! DEFINITION. The word form of the commands, and which frame each request row is. The opcode table
gives no row any bits: a command of this block is an event or a frame of the link, never a word, so
no word spells one. The frames' kinds are those of the request kind table (R178). -/

namespace Sys2Proof

/-- The command that a word of `nbits` bits spells by the table's bits: none, for every word. -/
def decodeTableWord (_nbits _w : Nat) : Option Instr := none

namespace Kind

/-- STATUS (R178). -/
def status : Byte := 0x01
/-- POSITION (R178). -/
def position : Byte := 0x02
/-- RESET_ENGINE (R178). -/
def resetEngine : Byte := 0x03
/-- NOTICE_MASK (R178). -/
def noticeMask : Byte := 0x04
/-- SET_BANK (R178). -/
def setBank : Byte := 0x08
/-- SET_IDLE_POLICY (R178). -/
def setIdlePolicy : Byte := 0x09
/-- STAGE_STATIC (R178). -/
def stageStatic : Byte := 0x0A
/-- APPLY_STATIC (R178). -/
def applyStatic : Byte := 0x0B
/-- READ_LANES (R178). -/
def readLanes : Byte := 0x0C
/-- DEFINE_PATTERN (R178). -/
def definePattern : Byte := 0x10
/-- DEFINE_GENERATOR (R178). -/
def defineGenerator : Byte := 0x11
/-- WRITE_VECTORS (R178). -/
def writeVectors : Byte := 0x12
/-- READ_VECTORS (R178). -/
def readVectors : Byte := 0x13
/-- DELETE_PATTERN (R178). -/
def deletePattern : Byte := 0x14
/-- LIST_PATTERNS (R178). -/
def listPatterns : Byte := 0x15
/-- PACK_STORE (R178). -/
def packStore : Byte := 0x16
/-- SET_TIMING (R178). -/
def setTiming : Byte := 0x18
/-- READ_TIMING (R178). -/
def readTiming : Byte := 0x19
/-- EDIT_SLOT (R178). -/
def editSlot : Byte := 0x1C
/-- SET_SLOT_COUNT (R178). -/
def setSlotCount : Byte := 0x1D
/-- READ_ROTATION (R178). -/
def readRotation : Byte := 0x1E
/-- COMMIT_ROTATION (R178). -/
def commitRotation : Byte := 0x1F
/-- WITHDRAW_COMMIT (R178). -/
def withdrawCommit : Byte := 0x20
/-- ARM (R178). -/
def arm : Byte := 0x24
/-- DISARM (R178). -/
def disarm : Byte := 0x25
/-- START (R178). -/
def start : Byte := 0x26
/-- STOP (R178). -/
def stop : Byte := 0x27
/-- HOLD (R178). -/
def hold : Byte := 0x28
/-- CONTINUE (R178). -/
def continueRun : Byte := 0x29
/-- RELEASE (R178). -/
def release : Byte := 0x2A
/-- ADVANCE (R178). -/
def advance : Byte := 0x2B
/-- SPLICE (R178). -/
def splice : Byte := 0x2C
/-- SUSPEND (R178). -/
def suspend : Byte := 0x30
/-- RESUME (R178). -/
def resume : Byte := 0x31
/-- READ_SNAPSHOT (R178). -/
def readSnapshot : Byte := 0x32
/-- LOAD_SNAPSHOT (R178). -/
def loadSnapshot : Byte := 0x33
/-- DISCARD_SNAPSHOT (R178). -/
def discardSnapshot : Byte := 0x34
/-- SET_CHECK (R178). -/
def setCheck : Byte := 0x38
/-- CLEAR_LANE (R178). -/
def clearLane : Byte := 0x39
/-- READ_FAILS (R178). -/
def readFails : Byte := 0x3A
/-- READ_COUNTS (R178). -/
def readCounts : Byte := 0x3B
/-- SURVEY (R178). -/
def survey : Byte := 0x3C
/-- READ_NET_MAP (R178). -/
def readNetMap : Byte := 0x3D
/-- LOAD_REFERENCE (R178). -/
def loadReference : Byte := 0x3E
/-- ADOPT_REFERENCE (R178). -/
def adoptReference : Byte := 0x3F
/-- CLEAR_REFERENCE (R178). -/
def clearReference : Byte := 0x40
/-- SET_TRIGGER (R178). -/
def setTrigger : Byte := 0x44
/-- CAPTURE (R178). -/
def capture : Byte := 0x45
/-- READ_CAPTURE (R178). -/
def readCapture : Byte := 0x46

end Kind

/-- The kinds of the request kind table (R178). -/
def knownKinds : List Byte :=
  [Kind.status, Kind.position, Kind.resetEngine, Kind.noticeMask,
   Kind.setBank, Kind.setIdlePolicy, Kind.stageStatic, Kind.applyStatic,
   Kind.readLanes, Kind.definePattern, Kind.defineGenerator, Kind.writeVectors,
   Kind.readVectors, Kind.deletePattern, Kind.listPatterns, Kind.packStore,
   Kind.setTiming, Kind.readTiming, Kind.editSlot, Kind.setSlotCount,
   Kind.readRotation, Kind.commitRotation, Kind.withdrawCommit, Kind.arm,
   Kind.disarm, Kind.start, Kind.stop, Kind.hold,
   Kind.continueRun, Kind.release, Kind.advance, Kind.splice,
   Kind.suspend, Kind.resume, Kind.readSnapshot, Kind.loadSnapshot,
   Kind.discardSnapshot, Kind.setCheck, Kind.clearLane, Kind.readFails,
   Kind.readCounts, Kind.survey, Kind.readNetMap, Kind.loadReference,
   Kind.adoptReference, Kind.clearReference, Kind.setTrigger, Kind.capture,
   Kind.readCapture]

/-- "A kind that is not in the request kind table" (R171). -/
def isKnownKind (k : Byte) : Bool := knownKinds.contains k

/-- "A kind byte of 0x60 or above is not a request" (R170). -/
def isRequestKind (k : Byte) : Bool := k.toNat < 0x60

/-- The frame of kind `k` with a request's tag and payload. -/
def Req.frame (r : Req) (k : Byte) : LinkFrame := ⟨r.tag, k, r.payload⟩

/-- The request frame that a command serves, if it serves one. -/
def Instr.frame? : Instr → Option LinkFrame
  | .badKind f => some f
  | .status r => some (r.frame Kind.status)
  | .position r => some (r.frame Kind.position)
  | .resetEngine r => some (r.frame Kind.resetEngine)
  | .noticeMask r => some (r.frame Kind.noticeMask)
  | .setBank r => some (r.frame Kind.setBank)
  | .setIdlePolicy r => some (r.frame Kind.setIdlePolicy)
  | .stageStatic r => some (r.frame Kind.stageStatic)
  | .applyStatic r => some (r.frame Kind.applyStatic)
  | .readLanes r _ => some (r.frame Kind.readLanes)
  | .definePattern r => some (r.frame Kind.definePattern)
  | .defineGenerator r => some (r.frame Kind.defineGenerator)
  | .writeVectors r => some (r.frame Kind.writeVectors)
  | .readVectors r => some (r.frame Kind.readVectors)
  | .deletePattern r => some (r.frame Kind.deletePattern)
  | .listPatterns r => some (r.frame Kind.listPatterns)
  | .packStore r => some (r.frame Kind.packStore)
  | .setTiming r => some (r.frame Kind.setTiming)
  | .readTiming r => some (r.frame Kind.readTiming)
  | .editSlot r => some (r.frame Kind.editSlot)
  | .setSlotCount r => some (r.frame Kind.setSlotCount)
  | .readRotation r => some (r.frame Kind.readRotation)
  | .commitRotation r => some (r.frame Kind.commitRotation)
  | .withdrawCommit r => some (r.frame Kind.withdrawCommit)
  | .arm r => some (r.frame Kind.arm)
  | .disarm r => some (r.frame Kind.disarm)
  | .start r => some (r.frame Kind.start)
  | .stop r => some (r.frame Kind.stop)
  | .hold r => some (r.frame Kind.hold)
  | .continueRun r => some (r.frame Kind.continueRun)
  | .release r => some (r.frame Kind.release)
  | .advance r => some (r.frame Kind.advance)
  | .splice r => some (r.frame Kind.splice)
  | .suspend r => some (r.frame Kind.suspend)
  | .resume r => some (r.frame Kind.resume)
  | .readSnapshot r => some (r.frame Kind.readSnapshot)
  | .loadSnapshot r => some (r.frame Kind.loadSnapshot)
  | .discardSnapshot r => some (r.frame Kind.discardSnapshot)
  | .setCheck r => some (r.frame Kind.setCheck)
  | .clearLane r => some (r.frame Kind.clearLane)
  | .readFails r => some (r.frame Kind.readFails)
  | .readCounts r => some (r.frame Kind.readCounts)
  | .survey r => some (r.frame Kind.survey)
  | .readNetMap r => some (r.frame Kind.readNetMap)
  | .loadReference r => some (r.frame Kind.loadReference)
  | .adoptReference r => some (r.frame Kind.adoptReference)
  | .clearReference r => some (r.frame Kind.clearReference)
  | .setTrigger r => some (r.frame Kind.setTrigger)
  | .capture r => some (r.frame Kind.capture)
  | .readCapture r => some (r.frame Kind.readCapture)
  | .fullReset _ => none
  | .startUpEnd _ _ => none
  | .frameComplete _ => none
  | .byteGapTimeout => none
  | .frameSent => none
  | .packComplete => none
  | .triggerLevelChange _ => none
  | .startTrigger _ => none
  | .stopTrigger _ => none
  | .releaseTrigger _ => none
  | .advanceTrigger _ => none
  | .captureTrigger _ => none
  | .spliceTrigger _ => none
  | .strobe _ => none
  | .stepEnd => none
  | .waitTimeout => none
  | .surveyStrobe _ => none
  | .surveyStepEnd => none
  | .characterReceived _ _ => none
  | .resetnDeasserted _ => none

/-- The row that serves a request frame, where `a` is the assembly's hold on the pins at that moment
(READ_LANES alone reads it): the rows of the request kind table (R178), or BAD_KIND (R171). -/
def Instr.ofFrame (a : Assembly) (f : LinkFrame) : Instr :=
  let r : Req := ⟨f.tag, f.payload⟩
  if f.kind = Kind.status then .status r
  else if f.kind = Kind.position then .position r
  else if f.kind = Kind.resetEngine then .resetEngine r
  else if f.kind = Kind.noticeMask then .noticeMask r
  else if f.kind = Kind.setBank then .setBank r
  else if f.kind = Kind.setIdlePolicy then .setIdlePolicy r
  else if f.kind = Kind.stageStatic then .stageStatic r
  else if f.kind = Kind.applyStatic then .applyStatic r
  else if f.kind = Kind.readLanes then .readLanes r a
  else if f.kind = Kind.definePattern then .definePattern r
  else if f.kind = Kind.defineGenerator then .defineGenerator r
  else if f.kind = Kind.writeVectors then .writeVectors r
  else if f.kind = Kind.readVectors then .readVectors r
  else if f.kind = Kind.deletePattern then .deletePattern r
  else if f.kind = Kind.listPatterns then .listPatterns r
  else if f.kind = Kind.packStore then .packStore r
  else if f.kind = Kind.setTiming then .setTiming r
  else if f.kind = Kind.readTiming then .readTiming r
  else if f.kind = Kind.editSlot then .editSlot r
  else if f.kind = Kind.setSlotCount then .setSlotCount r
  else if f.kind = Kind.readRotation then .readRotation r
  else if f.kind = Kind.commitRotation then .commitRotation r
  else if f.kind = Kind.withdrawCommit then .withdrawCommit r
  else if f.kind = Kind.arm then .arm r
  else if f.kind = Kind.disarm then .disarm r
  else if f.kind = Kind.start then .start r
  else if f.kind = Kind.stop then .stop r
  else if f.kind = Kind.hold then .hold r
  else if f.kind = Kind.continueRun then .continueRun r
  else if f.kind = Kind.release then .release r
  else if f.kind = Kind.advance then .advance r
  else if f.kind = Kind.splice then .splice r
  else if f.kind = Kind.suspend then .suspend r
  else if f.kind = Kind.resume then .resume r
  else if f.kind = Kind.readSnapshot then .readSnapshot r
  else if f.kind = Kind.loadSnapshot then .loadSnapshot r
  else if f.kind = Kind.discardSnapshot then .discardSnapshot r
  else if f.kind = Kind.setCheck then .setCheck r
  else if f.kind = Kind.clearLane then .clearLane r
  else if f.kind = Kind.readFails then .readFails r
  else if f.kind = Kind.readCounts then .readCounts r
  else if f.kind = Kind.survey then .survey r
  else if f.kind = Kind.readNetMap then .readNetMap r
  else if f.kind = Kind.loadReference then .loadReference r
  else if f.kind = Kind.adoptReference then .adoptReference r
  else if f.kind = Kind.clearReference then .clearReference r
  else if f.kind = Kind.setTrigger then .setTrigger r
  else if f.kind = Kind.capture then .capture r
  else if f.kind = Kind.readCapture then .readCapture r
  else .badKind f

end Sys2Proof
end

