-- ==== Sys2Proof/Config.lean ====
section
/-! DEFINITION. What the part fixes: sizes, limits and times, each with its rule. The spec leaves no
result of a command open, so there is no free value here. -/

namespace Sys2Proof.Config

/-- Vector records in the vector store (R21). -/
def storeSize : Nat := 2048

/-- The longest generated pattern (R24). -/
def maxGenerated : Nat := 1024

/-- Entries of the request queue, the request in service counted (R170). -/
def requestEntries : Nat := 4

/-- Entries of the outbound queue (R172). -/
def outboundEntries : Nat := 16

/-- Notices the outbound queue takes at most (R172). -/
def noticeCap : Nat := 12

/-- The largest payload of a frame (R168). -/
def maxPayload : Nat := 240

/-- Saved frames the context stack holds at most (R80). -/
def stackLimit : Nat := 4

/-- Records the fail log holds at most (R134). -/
def logLimit : Nat := 64

/-- The largest mismatch count (R128). -/
def maxMismatch : Nat := 255

/-- The largest consecutive fault count (R128). -/
def maxFault : Nat := 15

/-- The largest failing-step count (R128). -/
def maxFailing : Nat := 65535

/-- The largest period in prescaled ticks (R40). -/
def maxPeriodTicks : Nat := 65535

/-- Nanoseconds in one reference tick (00, Tick). -/
def tickNs : Nat := 20

/-- Reference ticks in a millisecond of the wait timeout (R53). -/
def ticksPerMs : Nat := 50000

/-- Reference ticks in the 10 ms start-up (R176). -/
def startUpTicks : Nat := 500000

/-- Reference ticks in the 2 ms gap that a frame may hold between two bytes (R169). -/
def gapTicks : Nat := 100000

/-- Reference ticks a pack takes for each record it moves: 80 ns (R37). -/
def packTicksPerRecord : Nat := 4

/-- The prescales, smallest first (R40, R43). -/
def prescales : List Nat := [1, 2, 4, 8, 16, 32, 64, 128]

end Sys2Proof.Config
end

