-- ==== Sys2Proof/Machine/State.lean ====
section
/-! DEFINITION. The state of the K24, block by block as the spec's block overview owns it (00), its
values after a full reset, and the block-wise updates. Every piece of state INVENTORY.md lists is
here; what the spec derives from other state (free counts, reservations, pins, stack depth) is
computed from it and stored nowhere else. -/

namespace Sys2Proof.Machine

/-! ## Output stage (01) -/

/-- A held level (R1). -/
inductive Level
  | zero
  | one
  | z
  deriving DecidableEq, Repr

/-- What a lane pin presents: driven at a pin level, or released (R5). -/
inductive Pin
  | driven (high : Bool)
  | released
  deriving DecidableEq, Repr

/-- The three banks of eight lanes (01). -/
inductive Bank
  | a
  | b
  | c
  deriving DecidableEq, Repr

/-- A bank's mode (R3, R4). -/
inductive BankMode
  | follow
  | latched
  deriving DecidableEq, Repr

/-- A bank's three settings (R11). -/
structure BankCfg where
  mode   : BankMode
  invert : Bool
  enable : Bool
  deriving DecidableEq, Repr

/-- What the lanes present between runs (R9). -/
inductive IdlePolicy
  | retain
  | low
  | high
  | release
  deriving DecidableEq, Repr

/-- The output stage (R17). -/
structure Output where
  staging    : Lanes Level
  applied    : Lanes Level
  bankA      : BankCfg
  bankB      : BankCfg
  bankC      : BankCfg
  idlePolicy : IdlePolicy
  deriving DecidableEq, Repr

/-! ## Pattern store (02) -/

/-- A drive code: drive 0, drive 1, release, keep (R18). -/
inductive Drive
  | d0
  | d1
  | z
  | k
  deriving DecidableEq, Repr

/-- An expect code: 0, 1, don't care (R18). -/
inductive Expect
  | e0
  | e1
  | x
  deriving DecidableEq, Repr

/-- A vector record (R18). -/
structure VectorRec where
  drive   : Lanes Drive
  expect  : Lanes Expect
  wait    : Bool
  mark    : Bool
  nocheck : Bool
  deriving DecidableEq, Repr

/-- The record DEFINE_PATTERN sets: drive K and expect X on every lane, no flag (R23). An unlisted
record of the vector store reads as it (log 7). -/
def VectorRec.blank : VectorRec :=
  ⟨Vector.replicate 24 .k, Vector.replicate 24 .x, false, false, false⟩

/-- The vector store's contents: (record number, record) pairs. -/
abbrev Memory := List (Nat × VectorRec)

/-- The one canonical form: record numbers strictly rising, no entry equal to what an unlisted record
reads as. -/
abbrev Memory.wf (m : Memory) : Prop :=
  m.Pairwise (fun c d => c.1 < d.1) ∧ ∀ c ∈ m, c.2 ≠ VectorRec.blank

/-- The kinds of generated pattern (R24). -/
inductive GenKind
  | walkOne
  | walkZero
  | rotate
  | count
  | alternate
  deriving DecidableEq, Repr

/-- The expect mode of a generated pattern (R24). -/
inductive ExpectMode
  | matchDrive
  | none
  deriving DecidableEq, Repr

/-- A generator record (R24). -/
structure Generator where
  kind   : GenKind
  mask   : LaneSet
  seed   : LaneSet
  step   : Nat
  expect : ExpectMode
  deriving DecidableEq, Repr

/-- A directory entry's state with the fields present in it (R19). -/
inductive Content
  | undefined
  | stored (length base : Nat)
  | generated (length : Nat) (gen : Generator)
  deriving DecidableEq, Repr

/-- A directory entry (R19, R20). -/
structure DirEntry where
  content    : Content
  generation : Count32
  deriving DecidableEq, Repr

/-- One stored pattern of a pack's order of work: where it lies and where it goes (R36). -/
structure PackMove where
  id     : PatternId
  base   : Nat
  length : Nat
  dest   : Nat
  deriving DecidableEq, Repr

/-- A pack in progress: the plan fixed at its beginning, and the reference ticks it still takes
(R36, R37). -/
structure Pack where
  moves : List PackMove
  left  : Nat
  deriving DecidableEq, Repr

/-- The pattern store (R39). -/
structure Store where
  directory : Vector DirEntry 32
  vectors   : Memory
  pack      : Option Pack
  deriving DecidableEq, Repr

/-! ## Timing unit (03) -/

/-- A timing set (R40). -/
structure TimingSet where
  prescale        : Nat
  period          : Nat
  strobe          : Nat
  requestedPeriod : Nat
  requestedStrobe : Nat
  inexact         : Bool
  deriving DecidableEq, Repr

/-- The step the pacer is running: its three values, the count, and the reference ticks spent in the
count (R47). -/
structure PacerStep where
  prescale : Nat
  period   : Nat
  strobe   : Nat
  count    : Nat
  spent    : Nat
  deriving DecidableEq, Repr

/-- The wait timer, in reference ticks (R53). -/
structure WaitTimer where
  running   : Bool
  remaining : Nat
  deriving DecidableEq, Repr

/-- The timing unit (R55). The pacer is stopped, or holds a step; HELD freezes it (R49). -/
structure Timing where
  sets      : Vector TimingSet 4
  pacer     : Option PacerStep
  waitTimer : WaitTimer
  deriving DecidableEq, Repr

/-! ## Rotation unit (04) -/

/-- The order in which a pass visits a pattern (R59). -/
inductive Direction
  | forward
  | reverse
  | pingpong
  deriving DecidableEq, Repr

/-- The phase of a position (R59). -/
inductive Phase
  | ascending
  | descending
  deriving DecidableEq, Repr

/-- A position of a pass: a vector index with a phase (R59). -/
structure Position where
  index : Nat
  phase : Phase
  deriving DecidableEq, Repr

/-- A slot record (R56). -/
structure Slot where
  pattern   : PatternId
  dwell     : Nat
  direction : Direction
  timing    : TimingId
  deriving DecidableEq, Repr

/-- The zero record (R56). -/
def Slot.zeroRecord : Slot := ⟨0, 0, .forward, 0⟩

/-- A rotation: slot count 0..16 and sixteen slot records (R57). -/
structure Rotation where
  count : Nat
  slots : Vector Slot 16
  deriving DecidableEq, Repr

/-- The rotation unit (R72). The lock of the pending rotation is the swap-waiting flag (R67). -/
structure RotationUnit where
  active      : Rotation
  pendingRot  : Rotation
  version     : Count32
  swapWaiting : Bool
  deriving DecidableEq, Repr

/-- How a swap was carried out (R66). -/
inductive SwapManner
  | immediate
  | wrap
  | runEnd
  deriving DecidableEq, Repr

/-! ## Run engine (05, 06, 07) -/

/-- What CONTINUE returns to (R73). -/
inductive HeldOrigin
  | running
  | waiting
  | boundary
  deriving DecidableEq, Repr

/-- The engine state; the held origin is present exactly in HELD (R73). -/
inductive EngineState
  | idle
  | armed
  | running
  | waiting
  | held (origin : HeldOrigin)
  | lockout
  deriving DecidableEq, Repr

/-- The run kind (R73). -/
inductive RunKind
  | rotation
  | survey
  | none
  deriving DecidableEq, Repr

/-- The mode option (R75). -/
inductive RunMode
  | oneShot
  | continuous
  deriving DecidableEq, Repr

/-- The run options (R75). -/
structure Options where
  mode         : RunMode
  stopOnFail   : Nat
  waitTimeout  : Nat
  clearAtStart : Bool
  deriving DecidableEq, Repr

/-- The options' defaults (R75). -/
def Options.default : Options := ⟨.oneShot, 0, 0, true⟩

/-- What a BASE frame holds besides the fields of every frame (R80). -/
structure BasePlace where
  slot       : SlotIndex
  passesLeft : Nat
  deriving DecidableEq, Repr

/-- A frame of the run: BASE where `base` is present, SPLICE where it is absent (R80). -/
structure RunFrame where
  pattern : PatternId
  pos     : Position
  timing  : TimingId
  base    : Option BasePlace
  deriving DecidableEq, Repr

/-- A saved frame with its skip-on-return (R80). -/
structure SavedFrame where
  frame : RunFrame
  skip  : Nat
  deriving DecidableEq, Repr

/-- A splice's arguments: of a request, a pending splice, or a trigger preset (R102, R161). -/
structure Splice where
  pattern : PatternId
  timing  : TimingId
  skip    : Nat
  deriving DecidableEq, Repr

/-- The pending stop (R86). -/
inductive PendingStop
  | none
  | failLimit
  | quarantineStop
  deriving DecidableEq, Repr

/-- The last stop cause (R95). -/
inductive StopCause
  | none
  | hostStop
  | triggerStop
  | complete
  | failLimit
  | quarantineStop
  | waitTimeout
  | lockout
  | suspended
  | engineReset
  deriving DecidableEq, Repr

/-- The verdict (R96). -/
inductive Verdict
  | none
  | pass
  | fail
  | incomplete
  deriving DecidableEq, Repr

/-- A frame's kind in a record of the link (R80). -/
inductive FrameKind
  | base
  | splice
  deriving DecidableEq, Repr

/-- A frame of a snapshot, with its generation. The slot index and passes left are bytes as loaded,
and the vector index and skip take all their 16 bits, since a loaded frame keeps values that RESUME
later refuses or does not read (R116, R124). -/
structure SnapFrame where
  kind       : FrameKind
  pattern    : PatternId
  slot       : Byte
  pos        : Position
  passesLeft : Byte
  skip       : Nat
  timing     : TimingId
  generation : Count32
  deriving DecidableEq, Repr

/-- A snapshot's state (R116). -/
inductive SnapState
  | empty
  | suspended
  | loaded
  deriving DecidableEq, Repr

/-- A snapshot, its frames base first (R116). -/
structure Snapshot where
  state        : SnapState
  options      : Options
  version      : Count32
  stepCounter  : Count32
  failingSteps : Nat
  frames       : List SnapFrame
  deriving DecidableEq, Repr

/-- An EMPTY snapshot: no frames, other fields "as zero and as their defaults" (R116). -/
def Snapshot.none : Snapshot := ⟨.empty, Options.default, 0, 0, 0, []⟩

/-- The run engine (R101). The context stack is kept top first. -/
structure Engine where
  mode            : EngineState
  runKind         : RunKind
  options         : Options
  live            : Option RunFrame
  stack           : List SavedFrame
  pendingSplice   : Option Splice
  stepRecord      : Option VectorRec
  releaseLatch    : Bool
  advanceLatch    : Bool
  pendingStop     : PendingStop
  quarantineInRun : Bool
  continuityFail  : Bool
  stepCounter     : Count32
  lastStop        : StopCause
  verdict         : Verdict
  snapshots       : Vector Snapshot 4
  deriving DecidableEq, Repr

/-! ## Checker (08) -/

/-- What a quarantine does to the run (R136). -/
inductive QuarantineAction
  | goOn
  | stop
  deriving DecidableEq, Repr

/-- The position fields of fail and capture records, present in rotation runs (R133, R165). -/
structure RunPlace where
  pattern : PatternId
  index   : Nat
  slot    : SlotIndex
  deriving DecidableEq, Repr

/-- A fail record's kind with the fields present in it (R133). -/
inductive FailDetail
  | stepFail (mismatch fault : LaneSet)
  | quarantine (lane : Lane)
  | openNet (driven other : Lane)
  | shortNet (driven other : Lane)
  deriving DecidableEq, Repr

/-- A fail record (R133). -/
structure FailRec where
  detail      : FailDetail
  stepCounter : Count32
  depth       : Nat
  place       : Option RunPlace
  observed    : LaneSet
  deriving DecidableEq, Repr

/-- The checker (R128). -/
structure Checker where
  mismatchCounts    : Lanes Nat
  faultCounts       : Lanes Nat
  quarantine        : LaneSet
  faultThreshold    : Nat
  quarantineLimit   : Nat
  quarantineAction  : QuarantineAction
  failLog           : List FailRec
  logOverflow       : Bool
  failingSteps      : Nat
  firstFailNotified : Bool
  deriving DecidableEq, Repr

/-! ## Survey unit (09) -/

/-- A present net map entry (R147). -/
structure NetEntry where
  observedSet : LaneSet
  stepCounter : Count32
  observed    : LaneSet
  deriving DecidableEq, Repr

/-- The survey unit (R147). -/
structure Survey where
  participants     : LaneSet
  position         : Option Lane
  timingSet        : TimingId
  netMap           : Lanes (Option NetEntry)
  mapComplete      : Bool
  reference        : Lanes (Option LaneSet)
  referencePresent : Bool
  deriving DecidableEq, Repr

/-! ## Trigger and capture unit (10) -/

/-- Which changes of level are edges (R161). -/
inductive TrigEdge
  | rising
  | falling
  | both
  deriving DecidableEq, Repr

/-- What an edge delivers; the preset is present exactly when the action is SPLICE (R161). -/
inductive TrigAction
  | none
  | start
  | stop
  | release
  | advance
  | capture
  | splice (preset : Splice)
  deriving DecidableEq, Repr

/-- One trigger input (R161). -/
structure TrigCfg where
  edge      : TrigEdge
  action    : TrigAction
  lastLevel : Bool
  deriving DecidableEq, Repr

/-- Who made a capture (R165). -/
inductive CaptureSource
  | trgA
  | trgB
  | request
  deriving DecidableEq, Repr

/-- A capture record (R165). -/
structure CaptureRec where
  source      : CaptureSource
  mode        : EngineState
  runKind     : RunKind
  stepCounter : Count32
  depth       : Nat
  place       : Option RunPlace
  surveyLane  : Option Lane
  deriving DecidableEq, Repr

/-- The trigger and capture unit (R167). -/
structure Trigger where
  trgA     : TrigCfg
  trgB     : TrigCfg
  latest   : Option CaptureRec
  previous : Option CaptureRec
  deriving DecidableEq, Repr

/-! ## Host link (11) -/

/-- A full reset's start-up in progress, with its reference ticks left, or the part operating
(R176). -/
inductive Power
  | startUp (left : Nat)
  | operating
  deriving DecidableEq, Repr

/-- The link speed (R176). -/
inductive Baud
  | b115200
  | b460800
  | b921600
  | b3000000
  deriving DecidableEq, Repr

/-- The receive framer: hunting, or in a frame with the bytes received after the start byte and the
reference ticks since the last byte (R169). -/
inductive Framer
  | hunting
  | inFrame (bytes : List Byte) (gap : Nat)
  deriving DecidableEq, Repr

/-- The host link (R176). The oldest request is the one the command unit serves next or is serving;
the oldest outbound frame is the one being sent. -/
structure Link where
  power      : Power
  baud       : Baud
  framer     : Framer
  requests   : List LinkFrame
  outbound   : List LinkFrame
  noticeMask : BitVec 16
  linkError  : Bool
  noticeLost : Bool
  deriving DecidableEq, Repr

/-! ## The whole part -/

/-- The state of the K24, and the queue of the commands that wait, first in, first out. -/
structure State where
  pending  : List Instr
  link     : Link
  store    : Store
  timing   : Timing
  rotation : RotationUnit
  engine   : Engine
  output   : Output
  checker  : Checker
  survey   : Survey
  trigger  : Trigger
  deriving DecidableEq, Repr

/-- The reasons a step can stop: the spec gives the block none (every request is answered, and an
event that cannot occur leaves the state as it is), so there is no constructor. -/
inductive Fault
  deriving DecidableEq, Repr

/-- The rejections of a step. -/
inductive Refusal
  /-- Raised by `exec` for a row that has no meaning yet, by name; safe. No row is left so. -/
  | notModelled (mnemonic : String)
  deriving DecidableEq, Repr

/-! ## Values after a full reset -/

/-- R17. -/
def Output.reset : Output :=
  { staging := Vector.replicate 24 .z
    applied := Vector.replicate 24 .z
    bankA := ⟨.latched, false, false⟩
    bankB := ⟨.latched, false, false⟩
    bankC := ⟨.latched, false, false⟩
    idlePolicy := .release }

/-- R39. -/
def Store.reset : Store :=
  { directory := Vector.replicate 32 ⟨.undefined, 0⟩
    vectors := []
    pack := none }

/-- The wait timer stopped with nothing left (R55). -/
def WaitTimer.stopped : WaitTimer := ⟨false, 0⟩

/-- R55. -/
def Timing.reset : Timing :=
  { sets := Vector.replicate 4 ⟨1, 50, 25, 1000, 500, false⟩
    pacer := none
    waitTimer := WaitTimer.stopped }

/-- A rotation of no slots whose records are the zero record (R72). -/
def Rotation.empty : Rotation := ⟨0, Vector.replicate 16 Slot.zeroRecord⟩

/-- R72. -/
def RotationUnit.reset : RotationUnit :=
  { active := Rotation.empty, pendingRot := Rotation.empty, version := 0, swapWaiting := false }

/-- R101, R127. -/
def Engine.reset : Engine :=
  { mode := .idle
    runKind := .none
    options := Options.default
    live := none
    stack := []
    pendingSplice := none
    stepRecord := none
    releaseLatch := false
    advanceLatch := false
    pendingStop := .none
    quarantineInRun := false
    continuityFail := false
    stepCounter := 0
    lastStop := .none
    verdict := .none
    snapshots := Vector.replicate 4 Snapshot.none }

/-- R128, R146. -/
def Checker.reset : Checker :=
  { mismatchCounts := Vector.replicate 24 0
    faultCounts := Vector.replicate 24 0
    quarantine := 0
    faultThreshold := 3
    quarantineLimit := 8
    quarantineAction := .goOn
    failLog := []
    logOverflow := false
    failingSteps := 0
    firstFailNotified := false }

/-- R160. -/
def Survey.reset : Survey :=
  { participants := 0
    position := none
    timingSet := 0
    netMap := Vector.replicate 24 none
    mapComplete := false
    reference := Vector.replicate 24 none
    referencePresent := false }

/-- R167; the last levels are those sensed at the end of start-up, until then 0 (DESIGN CHOICE,
log 4). -/
def Trigger.reset : Trigger :=
  { trgA := ⟨.rising, .none, false⟩
    trgB := ⟨.rising, .none, false⟩
    latest := none
    previous := none }

/-- R176, R173; the link speed is the straps', 115 200 here (DESIGN CHOICE, log 4). -/
def Link.reset : Link :=
  { power := .startUp Config.startUpTicks
    baud := .b115200
    framer := .hunting
    requests := []
    outbound := []
    noticeMask := 0x01FF
    linkError := false
    noticeLost := false }

/-- The part right after a full reset: every block at its full-reset values, the 10 ms start-up just
begun (R176). -/
def State.reset : State :=
  { pending := []
    link := Link.reset
    store := Store.reset
    timing := Timing.reset
    rotation := RotationUnit.reset
    engine := Engine.reset
    output := Output.reset
    checker := Checker.reset
    survey := Survey.reset
    trigger := Trigger.reset }

/-! ## Block-wise updates -/

/-- The state with another queue of waiting commands. -/
def State.withPending (s : State) (x : List Instr) : State := { s with pending := x }
/-- The state with another host link. -/
def State.withLink (s : State) (x : Link) : State := { s with link := x }
/-- The state with another pattern store. -/
def State.withStore (s : State) (x : Store) : State := { s with store := x }
/-- The state with another timing unit. -/
def State.withTiming (s : State) (x : Timing) : State := { s with timing := x }
/-- The state with another rotation unit. -/
def State.withRotation (s : State) (x : RotationUnit) : State := { s with rotation := x }
/-- The state with another run engine. -/
def State.withEngine (s : State) (x : Engine) : State := { s with engine := x }
/-- The state with another output stage. -/
def State.withOutput (s : State) (x : Output) : State := { s with output := x }
/-- The state with another checker. -/
def State.withChecker (s : State) (x : Checker) : State := { s with checker := x }
/-- The state with another survey unit. -/
def State.withSurvey (s : State) (x : Survey) : State := { s with survey := x }
/-- The state with another trigger and capture unit. -/
def State.withTrigger (s : State) (x : Trigger) : State := { s with trigger := x }

end Sys2Proof.Machine
end

