-- ==== Sys2Proof/Machine/Operands.lean ====
section
/-! DEFINITION. Reading request payloads: numbers most significant byte first, lane sets of 3 bytes,
enumerations counted from 0 in the order of the list that defines them, yes-or-no bytes, vector
records and snapshot frames (R177, R178). A byte beyond a list reads as none, which the request's rule
refuses RANGE. -/

namespace Sys2Proof.Machine

/-! ## Numbers -/

/-- A 2-byte number (R177). -/
def num2 (h l : Byte) : Nat := h.toNat * 256 + l.toNat

/-- A 4-byte number (R177). -/
def num4 (a b c d : Byte) : Nat := ((a.toNat * 256 + b.toNat) * 256 + c.toNat) * 256 + d.toNat

/-- A 4-byte counter. -/
def count4 (a b c d : Byte) : Count32 := BitVec.ofNat 32 (num4 a b c d)

/-- A lane set of 3 bytes: "a 24-bit number, in which bit n stands for LNn" (R177). -/
def laneSet3 (a b c : Byte) : LaneSet := a ++ b ++ c

/-- A yes-or-no byte of a request: 0 is no, any other value yes (R177). -/
def yes (b : Byte) : Bool := b != 0

/-! ## Numbers with a range -/

/-- A pattern id 0..31. -/
def PatternId.ofByte? (b : Byte) : Option PatternId :=
  if h : b.toNat < 32 then some ⟨b.toNat, h⟩ else none

/-- A timing set number 0..3. -/
def TimingId.ofByte? (b : Byte) : Option TimingId :=
  if h : b.toNat < 4 then some ⟨b.toNat, h⟩ else none

/-- A slot index 0..15. -/
def SlotIndex.ofByte? (b : Byte) : Option SlotIndex :=
  if h : b.toNat < 16 then some ⟨b.toNat, h⟩ else none

/-- A snapshot number 0..3. -/
def SnapshotId.ofByte? (b : Byte) : Option SnapshotId :=
  if h : b.toNat < 4 then some ⟨b.toNat, h⟩ else none

/-! ## Enumerations -/

/-- The value at a byte's place in the list that defines an enumeration (R177). -/
def enum {α : Type} (values : List α) (b : Byte) : Option α := values[b.toNat]?

/-- A bank: A, B, C (R11). -/
def Bank.ofByte? (b : Byte) : Option Bank := enum [.a, .b, .c] b

/-- A bank mode: FOLLOW, LATCHED (R11). -/
def BankMode.ofByte? (b : Byte) : Option BankMode := enum [.follow, .latched] b

/-- An idle policy: RETAIN, LOW, HIGH, RELEASE (R9). -/
def IdlePolicy.ofByte? (b : Byte) : Option IdlePolicy := enum [.retain, .low, .high, .release] b

/-- A generator kind (R24). -/
def GenKind.ofByte? (b : Byte) : Option GenKind :=
  enum [.walkOne, .walkZero, .rotate, .count, .alternate] b

/-- An expect mode: MATCH, NONE (R24). -/
def ExpectMode.ofByte? (b : Byte) : Option ExpectMode := enum [.matchDrive, .none] b

/-- A rounding mode of SET_TIMING (R42). -/
inductive Rounding
  | nearest
  | down
  | up
  deriving DecidableEq, Repr

/-- A rounding mode: NEAREST, DOWN, UP (R41). -/
def Rounding.ofByte? (b : Byte) : Option Rounding := enum [.nearest, .down, .up] b

/-- A direction: FORWARD 0, REVERSE 1, PINGPONG 2 (R177). -/
def Direction.ofByte? (b : Byte) : Option Direction := enum [.forward, .reverse, .pingpong] b

/-- Which rotation READ_ROTATION returns (R63). -/
inductive WhichRotation
  | active
  | pending
  deriving DecidableEq, Repr

/-- ACTIVE 0, PENDING 1 (R63, R177). -/
def WhichRotation.ofByte? (b : Byte) : Option WhichRotation := enum [.active, .pending] b

/-- A run mode: ONE_SHOT, CONTINUOUS (R75). -/
def RunMode.ofByte? (b : Byte) : Option RunMode := enum [.oneShot, .continuous] b

/-- A frame's kind: BASE, SPLICE (R80). -/
def FrameKind.ofByte? (b : Byte) : Option FrameKind := enum [.base, .splice] b

/-- A phase: ASCENDING, DESCENDING (R80). -/
def Phase.ofByte? (b : Byte) : Option Phase := enum [.ascending, .descending] b

/-- A quarantine action: CONTINUE, STOP (R128). -/
def QuarantineAction.ofByte? (b : Byte) : Option QuarantineAction := enum [.goOn, .stop] b

/-- A trigger input: TRGA 0, TRGB 1 (R177). -/
def TrigInput.ofByte? (b : Byte) : Option TrigInput := enum [.trgA, .trgB] b

/-- An edge: RISING, FALLING, BOTH (R161). -/
def TrigEdge.ofByte? (b : Byte) : Option TrigEdge := enum [.rising, .falling, .both] b

/-- An action other than SPLICE: NONE, START, STOP, RELEASE, ADVANCE, CAPTURE; SPLICE, the seventh,
takes the preset (R161). -/
def TrigAction.plain? (b : Byte) : Option TrigAction :=
  enum [.none, .start, .stop, .release, .advance, .capture] b

/-- The action byte of SPLICE (R161, R177). -/
def TrigAction.spliceByte : Byte := 6

/-! ## Vector records (R178) -/

/-- A drive code: 0 = drive 0, 1 = drive 1, 2 = Z, 3 = K. -/
def Drive.ofBits (v : BitVec 2) : Drive :=
  if v = 0 then .d0 else if v = 1 then .d1 else if v = 2 then .z else .k

/-- An expect code: 0, 1, 2 = X; 3 names none. -/
def Expect.ofBits? (v : BitVec 2) : Option Expect :=
  if v = 0 then some .e0 else if v = 1 then some .e1 else if v = 2 then some .x else none

/-- A lane's half of its record byte: lane 2k in bits 3..0 of byte k, lane 2k+1 in bits 7..4. -/
def laneNibble (bytes : List Byte) (n : Lane) : BitVec 4 :=
  (bytes.getD (n.val / 2) 0).extractLsb' (4 * (n.val % 2)) 4

/-- The drive codes of a record's bytes: bits 1..0 of each half. -/
def drivesOf (bytes : List Byte) : Lanes Drive :=
  Vector.ofFn fun n => Drive.ofBits ((laneNibble bytes n).extractLsb' 0 2)

/-- A lane's expect field: bits 3..2 of its half. -/
def expectField (bytes : List Byte) (n : Lane) : Option Expect :=
  Expect.ofBits? ((laneNibble bytes n).extractLsb' 2 2)

/-- The flags byte. -/
def recordFlags (bytes : List Byte) : Byte := bytes.getD 12 0

/-- A record that uses an encoding naming no expect code, or a flag bit naming no flag, is ill-formed
(R18). -/
def illFormedRecord (bytes : List Byte) : Bool :=
  (List.finRange 24).any (fun n => (expectField bytes n).isNone) || (recordFlags bytes).toNat ≥ 8

/-- The vector record of 13 bytes, none where it is ill-formed (R18, R178). -/
def VectorRec.ofBytes? (bytes : List Byte) : Option VectorRec :=
  if illFormedRecord bytes then none
  else some
    { drive := drivesOf bytes
      expect := Vector.ofFn fun n => (expectField bytes n).getD .x
      wait := (recordFlags bytes).getLsbD 0
      mark := (recordFlags bytes).getLsbD 1
      nocheck := (recordFlags bytes).getLsbD 2 }

/-- The first `count` pieces of `size` bytes each. -/
def pieces (size : Nat) : Nat → List Byte → List (List Byte)
  | 0, _ => []
  | count + 1, bytes => bytes.take size :: pieces size count (bytes.drop size)

/-- All of a list of records, none where any of them is ill-formed (R31 check 6). -/
def recordsOf? : List (List Byte) → Option (List VectorRec)
  | [] => some []
  | b :: bs =>
    match VectorRec.ofBytes? b, recordsOf? bs with
    | some v, some vs => some (v :: vs)
    | _, _ => none

/-! ## Snapshot frames (R178) -/

/-- A frame record with its generation, 14 bytes; none where a kind, phase, pattern id or timing set
names no value, or a BASE frame's slot index is over 15 (R124 check 3). -/
def SnapFrame.ofBytes? : List Byte → Option SnapFrame
  | [kind, pattern, slot, i1, i0, phase, passes, k1, k0, timing, g3, g2, g1, g0] =>
    match FrameKind.ofByte? kind, PatternId.ofByte? pattern, Phase.ofByte? phase,
        TimingId.ofByte? timing with
    | some kd, some p, some ph, some t =>
      if kd = .base ∧ 16 ≤ slot.toNat then none
      else some ⟨kd, p, slot, ⟨num2 i1 i0, ph⟩, passes, num2 k1 k0, t, count4 g3 g2 g1 g0⟩
    | _, _, _, _ => none
  | _ => none

/-- All of a list of snapshot frames, none where any of them is out of form. -/
def snapFramesOf? : List (List Byte) → Option (List SnapFrame)
  | [] => some []
  | b :: bs =>
    match SnapFrame.ofBytes? b, snapFramesOf? bs with
    | some f, some fs => some (f :: fs)
    | _, _ => none

/-- "The first frame must be BASE and every later frame SPLICE" (R121), of 1..5 frames. -/
def snapFormOk (frames : List SnapFrame) : Bool :=
  match frames with
  | [] => false
  | f :: rest => f.kind = .base && rest.all (fun g => g.kind = .splice) && rest.length ≤ 4

/-! ## Reference entries (R157) -/

/-- An entry of LOAD_REFERENCE: presence 0 or 1, then the expected set; none where the presence byte
holds any other value. -/
def refEntryOf? : List Byte → Option (Option LaneSet)
  | [p, a, b, c] =>
    if p = 0 then some none else if p = 1 then some (some (laneSet3 a b c)) else none
  | _ => none

/-- All entries, none where any presence byte is out of range. -/
def refEntriesOf? : List (List Byte) → Option (List (Option LaneSet))
  | [] => some []
  | b :: bs =>
    match refEntryOf? b, refEntriesOf? bs with
    | some e, some es => some (e :: es)
    | _, _ => none

/-! ## Straps -/

/-- The link speed the straps select, BAUD1 (bit 1) as the first digit (R176). -/
def Baud.ofStraps (v : BitVec 2) : Baud :=
  if v = 0 then .b115200 else if v = 1 then .b460800 else if v = 2 then .b921600 else .b3000000

end Sys2Proof.Machine
end

