-- ==== Sys2Proof/Machine/Encode.lean ====
section
/-! DEFINITION. Writing replies, notices and frames: the codes of every enumeration, the records of
the link, and the frame with its CRC (R168, R177, R178). -/

namespace Sys2Proof.Machine

/-! ## Numbers -/

/-- A number in `n` bytes, most significant first (R177). -/
def bytesOf : Nat → Nat → List Byte
  | 0, _ => []
  | n + 1, v => BitVec.ofNat 8 (v / 256 ^ n) :: bytesOf n v

/-- A 1-byte number. -/
def byte (v : Nat) : List Byte := bytesOf 1 v
/-- A 2-byte number. -/
def bytes2 (v : Nat) : List Byte := bytesOf 2 v
/-- A 4-byte number. -/
def bytes4 (v : Nat) : List Byte := bytesOf 4 v
/-- A 4-byte counter. -/
def bytesC (c : Count32) : List Byte := bytesOf 4 c.toNat
/-- A lane set, 3 bytes. -/
def bytesL (l : LaneSet) : List Byte := bytesOf 3 l.toNat
/-- A yes-or-no field: set is 1 (R177). -/
def bytesB (b : Bool) : List Byte := [if b then 1 else 0]
/-- An absent field of `n` bytes: every bit of it is 1 (R177). -/
def absent (n : Nat) : List Byte := List.replicate n 0xFF

/-! ## Status codes -/

/-- The status codes (R178). -/
inductive Status
  | ok
  | badKind
  | badLength
  | range
  | state
  | locked
  | inUse
  | existsAlready
  | notDefined
  | noRoom
  | fragmented
  | kind
  | empty
  | swapWaiting
  | notWaiting
  | stackFull
  | busy
  | stale
  | invalid
  | inexact
  | queueFull
  deriving DecidableEq, Repr

/-- The code of a status (R178). -/
def Status.code : Status → Byte
  | .ok => 0x00
  | .badKind => 0x01
  | .badLength => 0x02
  | .range => 0x03
  | .state => 0x04
  | .locked => 0x05
  | .inUse => 0x06
  | .existsAlready => 0x07
  | .notDefined => 0x08
  | .noRoom => 0x09
  | .fragmented => 0x0A
  | .kind => 0x0B
  | .empty => 0x0C
  | .swapWaiting => 0x0D
  | .notWaiting => 0x0E
  | .stackFull => 0x0F
  | .busy => 0x10
  | .stale => 0x11
  | .invalid => 0x12
  | .inexact => 0x13
  | .queueFull => 0x14

/-! ## Enumerations, each by its place in the list that defines it (R177) -/

def Level.code : Level → Byte
  | .zero => 0
  | .one => 1
  | .z => 2

def Pin.code : Pin → Byte
  | .driven false => 0
  | .driven true => 1
  | .released => 2

def BankMode.code : BankMode → Byte
  | .follow => 0
  | .latched => 1

def IdlePolicy.code : IdlePolicy → Byte
  | .retain => 0
  | .low => 1
  | .high => 2
  | .release => 3

/-- UNDEFINED 0, STORED 1, GENERATED 2 (R19). -/
def Content.code : Content → Nat
  | .undefined => 0
  | .stored _ _ => 1
  | .generated _ _ => 2

def Direction.code : Direction → Byte
  | .forward => 0
  | .reverse => 1
  | .pingpong => 2

def Phase.code : Phase → Byte
  | .ascending => 0
  | .descending => 1

def FrameKind.code : FrameKind → Byte
  | .base => 0
  | .splice => 1

def SwapManner.code : SwapManner → Byte
  | .immediate => 0
  | .wrap => 1
  | .runEnd => 2

/-- IDLE 0, ARMED 1, RUNNING 2, WAITING 3, HELD 4, LOCKOUT 5 (R178). -/
def EngineState.code : EngineState → Byte
  | .idle => 0
  | .armed => 1
  | .running => 2
  | .waiting => 3
  | .held _ => 4
  | .lockout => 5

def HeldOrigin.code : HeldOrigin → Byte
  | .running => 0
  | .waiting => 1
  | .boundary => 2

/-- The held origin's byte: absent outside HELD (R177). -/
def EngineState.originBytes : EngineState → List Byte
  | .held o => [o.code]
  | .idle => absent 1
  | .armed => absent 1
  | .running => absent 1
  | .waiting => absent 1
  | .lockout => absent 1

/-- ROTATION 0, SURVEY 1, NONE 2 (R178). -/
def RunKind.code : RunKind → Byte
  | .rotation => 0
  | .survey => 1
  | .none => 2

def RunMode.code : RunMode → Byte
  | .oneShot => 0
  | .continuous => 1

def PendingStop.code : PendingStop → Byte
  | .none => 0
  | .failLimit => 1
  | .quarantineStop => 2

/-- R178. -/
def StopCause.code : StopCause → Byte
  | .none => 0
  | .hostStop => 1
  | .triggerStop => 2
  | .complete => 3
  | .failLimit => 4
  | .quarantineStop => 5
  | .waitTimeout => 6
  | .lockout => 7
  | .suspended => 8
  | .engineReset => 9

def Verdict.code : Verdict → Byte
  | .none => 0
  | .pass => 1
  | .fail => 2
  | .incomplete => 3

def SnapState.code : SnapState → Byte
  | .empty => 0
  | .suspended => 1
  | .loaded => 2

def QuarantineAction.code : QuarantineAction → Byte
  | .goOn => 0
  | .stop => 1

def TrigEdge.code : TrigEdge → Byte
  | .rising => 0
  | .falling => 1
  | .both => 2

def TrigAction.code : TrigAction → Byte
  | .none => 0
  | .start => 1
  | .stop => 2
  | .release => 3
  | .advance => 4
  | .capture => 5
  | .splice _ => 6

def CaptureSource.code : CaptureSource → Byte
  | .trgA => 0
  | .trgB => 1
  | .request => 2

def TrigInput.code : TrigInput → Byte
  | .trgA => 0
  | .trgB => 1

def Drive.bits : Drive → BitVec 2
  | .d0 => 0
  | .d1 => 1
  | .z => 2
  | .k => 3

def Expect.bits : Expect → BitVec 2
  | .e0 => 0
  | .e1 => 1
  | .x => 2

/-! ## Records -/

/-- A lane's half of its vector record byte: the expect code above the drive code (R178). -/
def VectorRec.nibble (v : VectorRec) (n : Lane) : BitVec 4 := v.expect[n].bits ++ v.drive[n].bits

/-- The flags byte: bit 0 WAIT, bit 1 MARK, bit 2 NOCHECK (R178). -/
def VectorRec.flags (v : VectorRec) : Byte :=
  BitVec.ofNat 8 (v.wait.toNat + 2 * v.mark.toNat + 4 * v.nocheck.toNat)

/-- A vector record, 13 bytes: lane 2k in bits 3..0 of byte k, lane 2k+1 in bits 7..4 (R178). -/
def VectorRec.bytes (v : VectorRec) : List Byte :=
  (List.finRange 12).map (fun k =>
    v.nibble ⟨2 * k.val + 1, by omega⟩ ++ v.nibble ⟨2 * k.val, by omega⟩) ++ [v.flags]

/-- A slot record: pattern id, dwell, direction, timing set (R56). -/
def Slot.bytes (r : Slot) : List Byte :=
  byte r.pattern.val ++ byte r.dwell ++ [r.direction.code] ++ byte r.timing.val

/-- A frame record, 10 bytes, of a run's frame with a skip-on-return, 0 for the live frame; slot index
and passes left are absent for SPLICE (R178). -/
def RunFrame.bytes (f : RunFrame) (skip : Nat) : List Byte :=
  match f.base with
  | some b =>
    [FrameKind.base.code] ++ byte f.pattern.val ++ byte b.slot.val ++ bytes2 f.pos.index
      ++ [f.pos.phase.code] ++ byte b.passesLeft ++ bytes2 skip ++ byte f.timing.val
  | none =>
    [FrameKind.splice.code] ++ byte f.pattern.val ++ absent 1 ++ bytes2 f.pos.index
      ++ [f.pos.phase.code] ++ absent 1 ++ bytes2 skip ++ byte f.timing.val

/-- A snapshot's frame record with its 4-byte generation (R178). -/
def SnapFrame.bytes (f : SnapFrame) : List Byte :=
  [f.kind.code] ++ byte f.pattern.val ++ [f.slot] ++ bytes2 f.pos.index ++ [f.pos.phase.code]
    ++ [f.passesLeft] ++ bytes2 f.skip ++ byte f.timing.val ++ bytesC f.generation

/-- The LOAD_SNAPSHOT layout from the mode onward (R178). -/
def Snapshot.bytes (n : Snapshot) : List Byte :=
  [n.options.mode.code] ++ byte n.options.stopOnFail ++ bytes2 n.options.waitTimeout
    ++ bytesB n.options.clearAtStart ++ bytesC n.version ++ bytesC n.stepCounter
    ++ bytes2 n.failingSteps ++ byte n.frames.length ++ n.frames.flatMap SnapFrame.bytes

/-- The position fields: live pattern id, vector index, base slot index; absent in a survey (R178). -/
def placeBytes : Option RunPlace → List Byte
  | some p => byte p.pattern.val ++ bytes2 p.index ++ byte p.slot.val
  | none => absent 4

/-- A lane's byte, absent where there is none. -/
def laneByte : Option Lane → List Byte
  | some n => byte n.val
  | none => absent 1

/-- The kind byte of a fail record (R178). -/
def FailDetail.code : FailDetail → Byte
  | .stepFail _ _ => 0
  | .quarantine _ => 1
  | .openNet _ _ => 2
  | .shortNet _ _ => 3

/-- Mismatch set, fault set, lane, other lane: offsets 10 to 17 of a fail record (R178). -/
def FailDetail.bytes : FailDetail → List Byte
  | .stepFail m f => bytesL m ++ bytesL f ++ absent 1 ++ absent 1
  | .quarantine n => absent 3 ++ absent 3 ++ byte n.val ++ absent 1
  | .openNet d o => absent 3 ++ absent 3 ++ byte d.val ++ byte o.val
  | .shortNet d o => absent 3 ++ absent 3 ++ byte d.val ++ byte o.val

/-- A fail record, 21 bytes (R178). -/
def FailRec.bytes (r : FailRec) : List Byte :=
  [r.detail.code] ++ bytesC r.stepCounter ++ byte r.depth ++ placeBytes r.place ++ r.detail.bytes
    ++ bytesL r.observed

/-- A capture record, 14 bytes (R178). -/
def CaptureRec.bytes (c : CaptureRec) : List Byte :=
  [c.source.code, c.mode.code] ++ c.mode.originBytes ++ [c.runKind.code] ++ bytesC c.stepCounter
    ++ byte c.depth ++ placeBytes c.place ++ laneByte c.surveyLane

/-- A splice's arguments: pattern id, timing set, skip-on-return. -/
def Splice.bytes (p : Splice) : List Byte :=
  byte p.pattern.val ++ byte p.timing.val ++ byte p.skip

/-- A trigger input's edge, action and preset, the preset absent unless the action is SPLICE
(R161, R177). -/
def TrigCfg.bytes (t : TrigCfg) : List Byte :=
  [t.edge.code, t.action.code] ++
    (match t.action with
     | .splice p => p.bytes
     | .none => absent 3
     | .start => absent 3
     | .stop => absent 3
     | .release => absent 3
     | .advance => absent 3
     | .capture => absent 3)

/-! ## Frames -/

/-- One bit of the CRC: shift left, and exclusive-or with 0x1021 if the bit shifted out is 1 (R168). -/
def crcBit (r : BitVec 16) : BitVec 16 :=
  if r.msb then (r <<< 1) ^^^ 0x1021 else r <<< 1

/-- One byte of the CRC: into the high eight bits by exclusive-or, then eight shifts (R168). -/
def crcByte (r : BitVec 16) (b : Byte) : BitVec 16 :=
  crcBit (crcBit (crcBit (crcBit (crcBit (crcBit (crcBit (crcBit (r ^^^ (b ++ (0 : Byte))))))))))

/-- The CRC over a list of bytes, from 0xFFFF (R168). -/
def crc (bytes : List Byte) : BitVec 16 := bytes.foldl crcByte 0xFFFF

/-- The CRC in two bytes, high byte first (R168). -/
def crcBytes (c : BitVec 16) : List Byte := [c.extractLsb' 8 8, c.extractLsb' 0 8]

end Sys2Proof.Machine

namespace Sys2Proof

open Machine

/-- The bytes the CRC covers: length, tag, kind, payload (R168). -/
def LinkFrame.covered (f : LinkFrame) : List Byte :=
  BitVec.ofNat 8 f.payload.length :: f.tag :: f.kind :: f.payload

/-- A frame as it stands on the line: start byte, covered bytes, CRC (R168). -/
def LinkFrame.wire (f : LinkFrame) : List Byte :=
  0xC3 :: (f.covered ++ crcBytes (crc f.covered))

/-- The reply to a frame: kind plus 0x80, the same tag, status first (R168). -/
def LinkFrame.reply (f : LinkFrame) (st : Status) (results : List Byte) : LinkFrame :=
  ⟨f.tag, f.kind + 0x80, st.code :: results⟩

/-- A frame of a notice's kind (R168). -/
def LinkFrame.isNotice (f : LinkFrame) : Bool := 0xE0 ≤ f.kind.toNat

end Sys2Proof

namespace Sys2Proof.Machine

/-- The notices (R178). -/
inductive NoticeKind
  | ready
  | runEnd
  | mark
  | stepFail
  | quarantine
  | lockout
  | swapDone
  | spliceRefused
  | capture
  deriving DecidableEq, Repr

/-- A notice's bit in the notice mask: bit k for kind 0xE0 + k (R173). -/
def NoticeKind.bit : NoticeKind → Nat
  | .ready => 0
  | .runEnd => 1
  | .mark => 2
  | .stepFail => 3
  | .quarantine => 4
  | .lockout => 5
  | .swapDone => 6
  | .spliceRefused => 7
  | .capture => 8

/-- A notice: its kind in 0xE0..0xE8, tag 0, no status byte (R168). -/
def NoticeKind.frame (k : NoticeKind) (payload : List Byte) : LinkFrame :=
  ⟨0, BitVec.ofNat 8 (0xE0 + k.bit), payload⟩

end Sys2Proof.Machine
end

