-- ==== Sys2Proof/Machine/Ops.lean ====
section
/-! DEFINITION. The operations every block shares: lane sets, the vector store's memory, the engine's
states, the outbound queue with its notices and replies, admission, and the service of a request by
the command unit. -/

namespace Sys2Proof.Machine

/-! ## Lane sets -/

/-- The lane set of the lanes for which `p` holds. -/
def lanesWhere (p : Lane → Bool) : LaneSet := BitVec.ofFnLE p

/-- "bit n stands for LNn" (00). -/
def hasLane (l : LaneSet) (n : Lane) : Bool := l.getLsbD n.val

/-- The lanes of a set, in ascending order. -/
def lanesOf (l : LaneSet) : List Lane := (List.finRange 24).filter (hasLane l)

/-- The number of lanes of a set. -/
def laneCount (l : LaneSet) : Nat := (lanesOf l).length

/-- The set of one lane. -/
def oneLane (n : Lane) : LaneSet := lanesWhere (fun m => m = n)

/-- The bank of a lane: A is LN0..LN7, B LN8..LN15, C LN16..LN23 (01). -/
def bankOf (n : Lane) : Bank := if n.val < 8 then .a else if n.val < 16 then .b else .c

/-! ## The vector store's memory -/

/-- The record at a record number; an unlisted one reads as the blank record. -/
def Memory.read : Memory → Nat → VectorRec
  | [], _ => VectorRec.blank
  | (b, w) :: m, a => if a = b then w else Memory.read m a

/-- One record written; writing what an unlisted record reads as removes the entry. -/
def Memory.write : Memory → Nat → VectorRec → Memory
  | [], a, v => if v = VectorRec.blank then [] else [(a, v)]
  | (b, w) :: m, a, v =>
    if a < b then (if v = VectorRec.blank then (b, w) :: m else (a, v) :: (b, w) :: m)
    else if a = b then (if v = VectorRec.blank then m else (a, v) :: m)
    else (b, w) :: Memory.write m a v

/-- Records written one after another from a record number up. -/
def Memory.writeAll (m : Memory) : Nat → List VectorRec → Memory
  | _, [] => m
  | a, v :: vs => Memory.writeAll (m.write a v) (a + 1) vs

/-- `n` records from `base` set to the blank record (R23). -/
def Memory.clear (m : Memory) (base n : Nat) : Memory :=
  m.filter fun c => !(base ≤ c.1 && c.1 < base + n)

/-! ## Engine states -/

/-- "A run is live while the engine is RUNNING, WAITING or HELD" (R73). -/
def EngineState.isLive : EngineState → Bool
  | .idle => false
  | .armed => false
  | .running => true
  | .waiting => true
  | .held _ => true
  | .lockout => false

/-- The stack depth: the number of saved frames (R80). -/
def Engine.depth (e : Engine) : Nat := e.stack.length

/-- A rotation run is live. -/
def Engine.rotationLive (e : Engine) : Bool := e.mode.isLive && e.runKind == .rotation

/-- A survey run is live. -/
def Engine.surveyLive (e : Engine) : Bool := e.mode.isLive && e.runKind == .survey

/-- The slot index of the base frame: the live frame where the stack is empty, else the bottom of the
stack (R80). -/
def Engine.baseSlot (e : Engine) : SlotIndex :=
  match e.stack.getLast? with
  | some b => (b.frame.base.map BasePlace.slot).getD 0
  | none => ((e.live.bind RunFrame.base).map BasePlace.slot).getD 0

/-- The position fields of records and notices: the live frame's pattern and vector index, and the
base frame's slot; absent where the run has no frames (R133, R165). -/
def Engine.place (e : Engine) : Option RunPlace :=
  e.live.map fun f => ⟨f.pattern, f.pos.index, e.baseSlot⟩

/-! ## The outbound queue (R170, R172) -/

/-- One entry is reserved for each admitted request until its reply is placed (11.2). -/
def Link.reserved (l : Link) : Nat := l.requests.length

/-- "16 less the reserved entries and less the frames already placed" (11.2). -/
def Link.freeEntries (l : Link) : Nat := Config.outboundEntries - l.reserved - l.outbound.length

/-- Notices in the outbound queue. -/
def Link.notices (l : Link) : Nat := (l.outbound.filter LinkFrame.isNotice).length

/-- A frame placed at the tail of the outbound queue. -/
def Link.place (l : Link) (f : LinkFrame) : Link := { l with outbound := l.outbound ++ [f] }

/-- READY is placed whatever the mask holds; any other kind by its bit (R173). -/
def Link.maskAdmits (l : Link) (k : NoticeKind) : Bool :=
  k = .ready || l.noticeMask.getLsbD k.bit

/-- A notice is masked out, placed, or dropped with NOTICE_LOST set (R172). -/
def Link.notice (l : Link) (k : NoticeKind) (payload : List Byte) : Link :=
  if !l.maskAdmits k then l
  else if l.notices < Config.noticeCap && 1 ≤ l.freeEntries then l.place (k.frame payload)
  else { l with noticeLost := true }

/-- A block makes a notice (R172). -/
def State.notice (s : State) (k : NoticeKind) (payload : List Byte) : State :=
  s.withLink (s.link.notice k payload)

/-! ## Framer and admission (R169, R170) -/

/-- A frame in progress is discarded: LINK_ERROR is set and the framer hunts (R169). -/
def Link.discard (l : Link) : Link := { l with framer := .hunting, linkError := true }

/-- A complete frame is discarded, admitted, answered QUEUE_FULL or dropped (R170). -/
def Link.admission (l : Link) (f : LinkFrame) : Link :=
  if !isRequestKind f.kind then { l with linkError := true }
  else if l.requests.length < Config.requestEntries && 1 ≤ l.freeEntries then
    { l with requests := l.requests ++ [f] }
  else if 1 ≤ l.freeEntries then l.place (f.reply .queueFull [])
  else { l with linkError := true }

/-- A frame's last CRC byte arrives and agrees: it is handed to admission and the framer hunts. A
payload over 240 bytes cannot be: its length byte discards the frame (R169). -/
def Link.completeFrame (l : Link) (f : LinkFrame) : Link :=
  if f.payload.length ≤ Config.maxPayload then { l with framer := .hunting }.admission f
  else l.discard

/-! ## The command unit (R171) -/

/-- What a request is answered: a status and the results after it. -/
structure Reply where
  status  : Status
  results : List Byte
  deriving DecidableEq, Repr

/-- A request worked out: the state it leaves, and its reply. -/
abbrev Served := State × Reply

/-- A request accepted. -/
def accept (s : State) (results : List Byte) : Served := (s, ⟨.ok, results⟩)

/-- A request refused: it changes no state (R171). -/
def refuse (st : Status) (s : State) : Served := (s, ⟨st, []⟩)

/-- A request refused with results. -/
def refuseWith (st : Status) (results : List Byte) (s : State) : Served := (s, ⟨st, results⟩)

/-- A request that LOCKOUT refuses LOCKED "before any other check it would make" (R143). -/
def unlessLocked (s : State) (k : Served) : Served :=
  if s.engine.mode = .lockout then refuse .locked s else k

/-- The part takes bytes and events: no reset or start-up is in progress (R176). -/
def State.operating (s : State) : Bool := s.link.power = .operating

/-- The frame is the oldest request of the queue. -/
def Link.oldestIs (l : Link) (f : LinkFrame) : Bool := l.requests.head? = some f

/-- The reply is placed in its reserved entry at the tail, and the request leaves the queue (R171). -/
def Link.answer (l : Link) (f : LinkFrame) (r : Reply) : Link :=
  { l with requests := l.requests.tail, outbound := l.outbound ++ [f.reply r.status r.results] }

/-- A request worked out and answered. -/
def answered (f : LinkFrame) (w : Served) : State := w.1.withLink (w.1.link.answer f w.2)

/-- The request's frame stands at the head of the queue: it was admitted earlier, or it completes now
and is admitted (R170; log 1). -/
def State.submit (s : State) (f : LinkFrame) : State :=
  if s.link.oldestIs f then s else s.withLink (s.link.completeFrame f)

/-- The command unit is free and the frame is its next request. -/
def State.serves (s : State) (f : LinkFrame) : Bool := s.store.pack.isNone && s.link.oldestIs f

/-- A request row: the frame is submitted, and if the command unit is free and it is the oldest
request, it is worked out; while a reset or start-up lasts, every frame is ignored (R171, R176; log 1). -/
def serveFrame (f : LinkFrame) (work : State → State) (s : State) : State :=
  if !s.operating then s
  else if (s.submit f).serves f then work (s.submit f) else s.submit f

/-- A request row whose request is answered when it is taken: all but PACK_STORE (R171). -/
def serveRequest (f : LinkFrame) (body : List Byte → State → Served) (s : State) : State :=
  serveFrame f (fun t => answered f (body f.payload t)) s

end Sys2Proof.Machine
end

