-- ==== Sys2Proof/Machine/Flags.lean ====
section
/-! DEFINITION. What is computed from the state each time it is asked for: pin levels, sensed levels,
the judgement of the lanes at a strobe, the output pins RUNNING and LOCK, the verdict, and the flags
byte of STATUS. -/

namespace Sys2Proof.Machine

/-! ## Banks, pins and senses (01) -/

/-- A bank's settings. -/
def Output.bank (o : Output) : Bank → BankCfg
  | .a => o.bankA
  | .b => o.bankB
  | .c => o.bankC

/-- The settings of a lane's bank. -/
def Output.cfg (o : Output) (n : Lane) : BankCfg := o.bank (bankOf n)

/-- The pin level a held level stands for: 0 and 1 exchanged if the bank inverts (R5). -/
def Level.toPin (invert : Bool) : Level → Pin
  | .zero => .driven invert
  | .one => .driven (!invert)
  | .z => .released

/-- What a lane's pin presents (R5): released if its bank is disabled, if it is quarantined, or in
LOCKOUT; else the applied level under the bank's inversion. -/
def State.pinLevel (s : State) (n : Lane) : Pin :=
  if !(s.output.cfg n).enable || hasLane s.checker.quarantine n || s.engine.mode = .lockout
  then .released
  else s.output.applied[n].toPin (s.output.cfg n).invert

/-- The pin level sensed at a lane: what the assembly holds it at, else what the part drives, else 0
through the pull-down (R7). -/
def State.sensed (s : State) (a : Assembly) (n : Lane) : Bool :=
  if hasLane a.holds n then hasLane a.levels n else s.pinLevel n = .driven true

/-- The logical sense: the sensed pin level with the bank's inversion undone (R7). -/
def State.sense (s : State) (a : Assembly) (n : Lane) : Bool :=
  s.sensed a n ^^ (s.output.cfg n).invert

/-- The logical senses of all lanes, as records and map entries keep them. -/
def State.senses (s : State) (a : Assembly) : LaneSet := lanesWhere (s.sense a)

/-- A driven lane: its bank enabled, not quarantined, its applied level 0 or 1 (R8). -/
def State.drives (s : State) (n : Lane) : Bool :=
  (s.output.cfg n).enable && !hasLane s.checker.quarantine n && s.output.applied[n] != .z

/-! ## The judgement at a strobe (08) -/

/-- A level as the logical level it is; Z is none. -/
def Level.logical? : Level → Option Bool
  | .zero => some false
  | .one => some true
  | .z => none

/-- The logical level an expect code names; X is none. -/
def Expect.logical? : Expect → Option Bool
  | .e0 => some false
  | .e1 => some true
  | .x => none

/-- A mismatch (R129): the record expects 0 or 1 and lacks NOCHECK, the lane is not quarantined, and
its logical sense differs. Without a record, as in a survey step, there is none (R138). -/
def State.mismatch (s : State) (a : Assembly) (r : Option VectorRec) (n : Lane) : Bool :=
  match r with
  | none => false
  | some v =>
    match v.expect[n].logical? with
    | none => false
    | some e => !v.nocheck && !hasLane s.checker.quarantine n && s.sense a n != e

/-- A fault (R130): the lane is driven and its logical sense differs from its applied level. -/
def State.faulty (s : State) (a : Assembly) (n : Lane) : Bool :=
  s.drives n && s.output.applied[n].logical? != some (s.sense a n)

/-- The mismatch lane set of a strobe. -/
def State.mismatchSet (s : State) (a : Assembly) (r : Option VectorRec) : LaneSet :=
  lanesWhere (s.mismatch a r)

/-- The fault lane set of a strobe. -/
def State.faultSet (s : State) (a : Assembly) : LaneSet := lanesWhere (s.faulty a)

/-- The quarantined count (R128). -/
def Checker.quarantinedCount (c : Checker) : Nat := laneCount c.quarantine

/-! ## Engine pins and verdict (05) -/

/-- The RUNNING pin: asserted while RUNNING, WAITING or HELD (R74). -/
def Engine.runningPin (e : Engine) : Bool := e.mode.isLive

/-- The LOCK pin: asserted in LOCKOUT (R74). -/
def Engine.lockPin (e : Engine) : Bool := e.mode = .lockout

/-- The verdict worked out at a run end (R96). -/
def verdictOf (cause : StopCause) (failingSteps : Nat) (quarantineInRun continuityFail : Bool) :
    Verdict :=
  if 0 < failingSteps || quarantineInRun || continuityFail then .fail
  else if cause = .complete then .pass
  else .incomplete

/-! ## The flags byte of STATUS (R99, R178) -/

/-- Bit 0 LINK_ERROR, 1 NOTICE_LOST, 2 LOG_OVERFLOW, 3 SWAP_WAITING, 4 REFERENCE_PRESENT. -/
def State.statusFlags (s : State) : Byte :=
  BitVec.ofNat 8 (s.link.linkError.toNat + 2 * s.link.noticeLost.toNat
    + 4 * s.checker.logOverflow.toNat + 8 * s.rotation.swapWaiting.toNat
    + 16 * s.survey.referencePresent.toNat)

/-! ## Time left in a wait (R53) -/

/-- The remaining time in milliseconds, "rounded up to the next whole millisecond". -/
def WaitTimer.millis (w : WaitTimer) : Nat :=
  (w.remaining + (Config.ticksPerMs - 1)) / Config.ticksPerMs

end Sys2Proof.Machine
end

