-- ==== Sys2Proof/Machine/Output.lean ====
section
/-! DEFINITION. The output stage (01): staging, the copies of FOLLOW and LATCHED banks, the idle
policy, the survey's drive, and the requests SET_BANK, SET_IDLE_POLICY, STAGE_STATIC, APPLY_STATIC
and READ_LANES. -/

namespace Sys2Proof.Machine

/-! ## Operations -/

/-- A lane's staging level after its drive code (R2). -/
def Drive.onto (d : Drive) (old : Level) : Level :=
  match d with
  | .d0 => .zero
  | .d1 => .one
  | .z => .z
  | .k => old

/-- The applied level of every lane of a FOLLOW bank takes the staging level (R3). -/
def Output.followCopy (o : Output) : Output :=
  { o with applied := Vector.ofFn fun n =>
      if (o.cfg n).mode = .follow then o.staging[n] else o.applied[n] }

/-- The applied level of every lane of a LATCHED bank takes the staging level, whatever its enable
(R4). -/
def Output.latchedCopy (o : Output) : Output :=
  { o with applied := Vector.ofFn fun n =>
      if (o.cfg n).mode = .latched then o.staging[n] else o.applied[n] }

/-- A vector is staged: all 24 lanes together, then the FOLLOW banks' copy (R2, R3). -/
def Output.stage (o : Output) (drive : Lanes Drive) : Output :=
  { o with staging := Vector.ofFn fun n => drive[n].onto o.staging[n] }.followCopy

/-- Both held levels of every lane. -/
def Output.holdAll (o : Output) (l : Level) : Output :=
  { o with staging := Vector.replicate 24 l, applied := Vector.replicate 24 l }

/-- The idle policy applied at a run end (R10). -/
def Output.applyIdle (o : Output) : Output :=
  match o.idlePolicy with
  | .retain => { o with staging := o.applied }
  | .low => o.holdAll .zero
  | .high => o.holdAll .one
  | .release => o.holdAll .z

/-- The logical level that yields pin level 1 at a lane (R6). -/
def Output.pinHighLevel (o : Output) (n : Lane) : Level := if (o.cfg n).invert then .zero else .one

/-- A survey step start: both levels of the driven participant give pin level 1, every other lane is
Z; bank modes play no part (R6). -/
def Output.surveyDrive (o : Output) (driven : Lane) : Output :=
  let levels : Lanes Level := Vector.ofFn fun n => if n = driven then o.pinHighLevel n else .z
  { o with staging := levels, applied := levels }

/-- One bank's settings replaced. -/
def Output.putBank (o : Output) (which : Bank) (c : BankCfg) : Output :=
  match which with
  | .a => { o with bankA := c }
  | .b => { o with bankB := c }
  | .c => { o with bankC := c }

/-- SET_BANK's write: the settings, and, where the mode changes from LATCHED to FOLLOW, the copy of the
bank's own staging levels (R4, R11). -/
def Output.setBank (o : Output) (which : Bank) (c : BankCfg) : Output :=
  { o.putBank which c with
    applied := Vector.ofFn fun n =>
      if bankOf n = which && (o.bank which).mode = .latched && c.mode = .follow then o.staging[n]
      else o.applied[n] }

/-! ## SET_BANK (R11) -/

/-- A bank's settings as SET_BANK and READ_LANES reply them: mode, invert, enable (log 9). -/
def BankCfg.bytes (c : BankCfg) : List Byte := [c.mode.code] ++ bytesB c.invert ++ bytesB c.enable

/-- SET_BANK (bank, mode, invert, enable). -/
def setBank (bank mode invert enable : Byte) (s : State) : Served :=
  unlessLocked s <|
    if s.engine.mode.isLive then refuse .state s
    else match Bank.ofByte? bank, BankMode.ofByte? mode with
      | some w, some m =>
        let t := s.withOutput (s.output.setBank w ⟨m, yes invert, yes enable⟩)
        accept t (t.output.bank w).bytes
      | _, _ => refuse .range s

/-- SET_BANK's payload. -/
def serveSetBank : List Byte → State → Served
  | [bank, mode, invert, enable], s => setBank bank mode invert enable s
  | _, s => refuse .badLength s

/-- SET_BANK. -/
def execSetBank (r : Req) (s : State) : Host.Outcome State Fault Refusal :=
  .next (serveRequest (r.frame Kind.setBank) serveSetBank s)

/-! ## SET_IDLE_POLICY (R9) -/

/-- SET_IDLE_POLICY (policy). -/
def setIdlePolicy (policy : Byte) (s : State) : Served :=
  unlessLocked s <|
    match IdlePolicy.ofByte? policy with
    | some p => accept (s.withOutput { s.output with idlePolicy := p }) []
    | none => refuse .range s

/-- SET_IDLE_POLICY's payload. -/
def serveSetIdlePolicy : List Byte → State → Served
  | [policy], s => setIdlePolicy policy s
  | _, s => refuse .badLength s

/-- SET_IDLE_POLICY. -/
def execSetIdlePolicy (r : Req) (s : State) : Host.Outcome State Fault Refusal :=
  .next (serveRequest (r.frame Kind.setIdlePolicy) serveSetIdlePolicy s)

/-! ## STAGE_STATIC (R12) -/

/-- STAGE_STATIC (vector record): its drive codes are staged, its other fields ignored. -/
def stageStatic (record : List Byte) (s : State) : Served :=
  unlessLocked s <|
    if s.engine.mode.isLive then refuse .state s
    else accept (s.withOutput (s.output.stage (drivesOf record))) []

/-- STAGE_STATIC's payload. -/
def serveStageStatic (p : List Byte) (s : State) : Served :=
  if p.length = 13 then stageStatic p s else refuse .badLength s

/-- STAGE_STATIC. -/
def execStageStatic (r : Req) (s : State) : Host.Outcome State Fault Refusal :=
  .next (serveRequest (r.frame Kind.stageStatic) serveStageStatic s)

/-! ## APPLY_STATIC (R13) -/

/-- APPLY_STATIC. -/
def applyStatic (s : State) : Served :=
  unlessLocked s <|
    if s.engine.mode.isLive then refuse .state s
    else accept (s.withOutput s.output.latchedCopy) []

/-- APPLY_STATIC's payload. -/
def serveApplyStatic : List Byte → State → Served
  | [], s => applyStatic s
  | _, s => refuse .badLength s

/-- APPLY_STATIC. -/
def execApplyStatic (r : Req) (s : State) : Host.Outcome State Fault Refusal :=
  .next (serveRequest (r.frame Kind.applyStatic) serveApplyStatic s)

/-! ## READ_LANES (R14) -/

/-- The six items of a lane: staging, applied, pin as presented, pin as sensed, logical sense,
quarantined (R14, R178). -/
def State.laneItems (s : State) (a : Assembly) (n : Lane) : List Byte :=
  [s.output.staging[n].code, s.output.applied[n].code, (s.pinLevel n).code]
    ++ bytesB (s.sensed a n) ++ bytesB (s.sense a n) ++ bytesB (hasLane s.checker.quarantine n)

/-- READ_LANES: lane by lane, then the banks, then the idle policy; no state changes. -/
def readLanes (a : Assembly) (s : State) : Served :=
  accept s ((List.finRange 24).flatMap (s.laneItems a) ++ s.output.bankA.bytes
    ++ s.output.bankB.bytes ++ s.output.bankC.bytes ++ [s.output.idlePolicy.code])

/-- READ_LANES' payload. -/
def serveReadLanes (a : Assembly) : List Byte → State → Served
  | [], s => readLanes a s
  | _, s => refuse .badLength s

/-- READ_LANES. -/
def execReadLanes (r : Req) (a : Assembly) (s : State) : Host.Outcome State Fault Refusal :=
  .next (serveRequest (r.frame Kind.readLanes) (serveReadLanes a) s)

end Sys2Proof.Machine
end

