-- ==== Sys2Proof/Machine/Store.lean ====
section
/-! DEFINITION. The pattern store (02): generated vectors, allocation by first fit, references, the
requests DEFINE_PATTERN, DEFINE_GENERATOR, WRITE_VECTORS, READ_VECTORS, DELETE_PATTERN,
LIST_PATTERNS and PACK_STORE, and the event PACK_COMPLETE. -/

namespace Sys2Proof.Machine

/-! ## The directory (R19, R21) -/

/-- A pattern is defined when its entry is STORED or GENERATED (R19). -/
def Content.isDefined : Content → Bool
  | .undefined => false
  | .stored _ _ => true
  | .generated _ _ => true

/-- The length of a pattern, 0 for UNDEFINED (R19). -/
def Content.length : Content → Nat
  | .undefined => 0
  | .stored n _ => n
  | .generated n _ => n

/-- The base of a STORED pattern, 0 for the others (R34). -/
def Content.base : Content → Nat
  | .undefined => 0
  | .stored _ b => b
  | .generated _ _ => 0

/-- The records a pattern occupies (R21). -/
def Content.records : Content → Nat
  | .undefined => 0
  | .stored n _ => n
  | .generated _ _ => 0

/-- A pattern's entry content. -/
def Store.content (t : Store) (p : PatternId) : Content := t.directory[p].content

/-- An entry's content written and its generation increased by one, wrapping (R20). -/
def Store.putContent (t : Store) (p : PatternId) (c : Content) : Store :=
  { t with directory := t.directory.set p.val ⟨c, t.directory[p].generation + 1⟩ }

/-! ## Free records (R21, R22) -/

/-- An extent in its place in a list ordered by base. -/
def insertByBase (e : PackMove) : List PackMove → List PackMove
  | [] => [e]
  | f :: fs => if e.base ≤ f.base then e :: f :: fs else f :: insertByBase e fs

/-- The extent of a pattern, if it is stored. -/
def Store.extent? (t : Store) (p : PatternId) : Option PackMove :=
  match t.content p with
  | .undefined => none
  | .stored n b => some ⟨p, b, n, b⟩
  | .generated _ _ => none

/-- The extents of the stored patterns, ordered by base, lowest first. -/
def Store.extents (t : Store) : List PackMove :=
  ((List.finRange 32).filterMap t.extent?).foldr insertByBase []

/-- The free runs (first index, length) above `cursor`, given the extents above it in order: each run
counted whole, from one occupied record, or the edge of the store, to the next (R21). -/
def freeRunsFrom (cursor : Nat) : List PackMove → List (Nat × Nat)
  | [] => if cursor < Config.storeSize then [(cursor, Config.storeSize - cursor)] else []
  | e :: es =>
    if cursor < e.base then (cursor, e.base - cursor) :: freeRunsFrom (e.base + e.length) es
    else freeRunsFrom (e.base + e.length) es

/-- The free runs, lowest first index first. -/
def Store.freeRuns (t : Store) : List (Nat × Nat) := freeRunsFrom 0 t.extents

/-- The records in use: the sum of stored pattern lengths. -/
def Store.used (t : Store) : Nat :=
  ((List.finRange 32).map fun p => (t.content p).records).sum

/-- "The free count equals 2048 minus the sum of stored pattern lengths" (R21). -/
def Store.freeCount (t : Store) : Nat := Config.storeSize - t.used

/-- The length of the longest free run, 0 where there is none (R21). -/
def Store.largestFree (t : Store) : Nat := (t.freeRuns.map Prod.snd).foldl max 0

/-- First fit: the first index of the first run of `n` records or more (R22). -/
def Store.firstFit (t : Store) (n : Nat) : Option Nat :=
  (t.freeRuns.find? fun r => n ≤ r.2).map Prod.fst

/-- The two figures as replies carry them. -/
def Store.figures (t : Store) : List Byte := bytes2 t.freeCount ++ bytes2 t.largestFree

/-! ## Generated vectors (R25 to R29) -/

/-- The rank of a masked lane: the number of masked lanes below it (R25). -/
def Generator.rank (g : Generator) (n : Lane) : Nat := ((lanesOf g.mask).filter (· < n)).length

/-- The start set's lane that a rotation by `r` brings to lane `n` (R27). -/
def rotatedFrom (n : Lane) (r : Nat) : Lane :=
  ⟨(n.val + 24 - r % 24) % 24, Nat.mod_lt _ (by decide)⟩

/-- The seed read as a number over the masked lanes, rank r as bit r (R28). -/
def Generator.seedCount (g : Generator) : Nat :=
  ((lanesOf (g.mask &&& g.seed)).map fun n => 2 ^ g.rank n).sum

/-- Whether vector `i` drives masked lane `n` to 1 (R26 to R29). -/
def Generator.drivesOne (g : Generator) (i : Nat) (n : Lane) : Bool :=
  match g.kind with
  | .walkOne => g.rank n = i % laneCount g.mask
  | .walkZero => g.rank n != i % laneCount g.mask
  | .rotate => hasLane (g.mask &&& g.seed) (rotatedFrom n ((i * g.step) % 24))
  | .count => ((g.seedCount + i * g.step) % 2 ^ laneCount g.mask).testBit (g.rank n)
  | .alternate => hasLane (g.mask &&& g.seed) n ^^ i % 2 == 1

/-- The drive code of a lane (R25 steps 1, 2). -/
def Generator.driveOf (g : Generator) (i : Nat) (n : Lane) : Drive :=
  if !hasLane g.mask n then .z else if g.drivesOne i n then .d1 else .d0

/-- The expect code of a lane (R25 steps 1, 3). -/
def Generator.expectOf (g : Generator) (i : Nat) (n : Lane) : Expect :=
  if !hasLane g.mask n || g.expect = .none then .x else if g.drivesOne i n then .e1 else .e0

/-- Vector `i` of a generated pattern (R25). -/
def Generator.vector (g : Generator) (i : Nat) : VectorRec :=
  { drive := Vector.ofFn (g.driveOf i)
    expect := Vector.ofFn (g.expectOf i)
    wait := false
    mark := false
    nocheck := false }

/-- Vector `i` of pattern `p` (R35). The frames of a run name defined patterns, so the last case is
met in no run; it answers the blank record (log 12). -/
def Store.vector (t : Store) (p : PatternId) (i : Nat) : VectorRec :=
  match t.content p with
  | .stored _ b => t.vectors.read (b + i)
  | .generated _ g => g.vector i
  | .undefined => VectorRec.blank

/-! ## References (R30) -/

/-- A slot below a rotation's count names the pattern. -/
def Rotation.names (r : Rotation) (p : PatternId) : Bool :=
  (List.finRange 16).any fun i => i.val < r.count && r.slots[i].pattern = p

/-- The live frame or a saved frame names the pattern. -/
def Engine.frameNames (e : Engine) (p : PatternId) : Bool :=
  e.live.any (fun f => f.pattern = p) || e.stack.any (fun f => f.frame.pattern = p)

/-- The pending splice names the pattern. -/
def Engine.spliceNames (e : Engine) (p : PatternId) : Bool :=
  e.pendingSplice.any (fun x => x.pattern = p)

/-- A trigger input's splice preset names the pattern. -/
def TrigCfg.names (t : TrigCfg) (p : PatternId) : Bool :=
  match t.action with
  | .splice x => x.pattern = p
  | .none => false
  | .start => false
  | .stop => false
  | .release => false
  | .advance => false
  | .capture => false

/-- Either input's preset names the pattern. -/
def Trigger.names (t : Trigger) (p : PatternId) : Bool := t.trgA.names p || t.trgB.names p

/-- The second list of R30: active slots below the count, frames, pending splice, presets. -/
def State.runNames (s : State) (p : PatternId) : Bool :=
  s.rotation.active.names p || s.engine.frameNames p || s.engine.spliceNames p
    || s.trigger.names p

/-- A pattern id is named (R30): also by a pending slot below the pending count. -/
def State.isNamed (s : State) (p : PatternId) : Bool :=
  s.runNames p || s.rotation.pendingRot.names p

/-- A pattern is run-referenced (R30). -/
def State.runReferenced (s : State) (p : PatternId) : Bool := s.engine.mode.isLive && s.runNames p

/-! ## DEFINE_PATTERN (R23) -/

/-- The entry becomes STORED over its extent, every record of which is blank (R23 step 6). -/
def Store.define (t : Store) (p : PatternId) (length base : Nat) : Store :=
  { t.putContent p (.stored length base) with vectors := t.vectors.clear base length }

/-- DEFINE_PATTERN (id, length). -/
def definePattern (id : Byte) (length : Nat) (s : State) : Served :=
  unlessLocked s <|
    match PatternId.ofByte? id with
    | none => refuse .range s
    | some p =>
      if (s.store.content p).isDefined then refuse .existsAlready s
      else if length = 0 || Config.storeSize < length then refuse .range s
      else match s.store.firstFit length with
        | none => refuse (if length ≤ s.store.freeCount then .fragmented else .noRoom) s
        | some base =>
          let t := s.store.define p length base
          accept (s.withStore t) (bytes2 base ++ bytesC t.directory[p].generation ++ t.figures)

/-- DEFINE_PATTERN's payload. -/
def serveDefinePattern : List Byte → State → Served
  | [id, l1, l0], s => definePattern id (num2 l1 l0) s
  | _, s => refuse .badLength s

/-- DEFINE_PATTERN. -/
def execDefinePattern (r : Req) (s : State) : Host.Outcome State Fault Refusal :=
  .next (serveRequest (r.frame Kind.definePattern) serveDefinePattern s)

/-! ## DEFINE_GENERATOR (R24) -/

/-- DEFINE_GENERATOR (id, kind, lane mask, seed lane set, step, length, expect mode). -/
def defineGenerator (id kind : Byte) (mask seed : LaneSet) (step : Nat) (length : Nat)
    (expect : Byte) (s : State) : Served :=
  unlessLocked s <|
    match PatternId.ofByte? id with
    | none => refuse .range s
    | some p =>
      if (s.store.content p).isDefined then refuse .existsAlready s
      else match GenKind.ofByte? kind, ExpectMode.ofByte? expect with
        | some k, some x =>
          if mask = 0 || 23 < step || length = 0 || Config.maxGenerated < length then
            refuse .range s
          else
            let t := s.store.putContent p (.generated length ⟨k, mask, seed, step, x⟩)
            accept (s.withStore t) (bytesC t.directory[p].generation)
        | _, _ => refuse .range s

/-- DEFINE_GENERATOR's payload. -/
def serveDefineGenerator : List Byte → State → Served
  | [id, kind, m2, m1, m0, d2, d1, d0, step, l1, l0, expect], s =>
    defineGenerator id kind (laneSet3 m2 m1 m0) (laneSet3 d2 d1 d0) step.toNat (num2 l1 l0) expect s
  | _, s => refuse .badLength s

/-- DEFINE_GENERATOR. -/
def execDefineGenerator (r : Req) (s : State) : Host.Outcome State Fault Refusal :=
  .next (serveRequest (r.frame Kind.defineGenerator) serveDefineGenerator s)

/-! ## WRITE_VECTORS (R31) -/

/-- Records written into a stored pattern from a vector index up; the generation increases once. -/
def Store.writeVectors (t : Store) (p : PatternId) (start : Nat) (records : List VectorRec) : Store :=
  { t.putContent p (t.content p) with
    vectors := t.vectors.writeAll ((t.content p).base + start) records }

/-- WRITE_VECTORS (id, start, count, records), the records as their bytes. -/
def writeVectors (id : Byte) (start count : Nat) (records : List (List Byte)) (s : State) : Served :=
  unlessLocked s <|
    match PatternId.ofByte? id with
    | none => refuse .range s
    | some p =>
      if count = 0 || 16 < count then refuse .range s
      else match s.store.content p with
        | .undefined => refuse .notDefined s
        | .generated _ _ => refuse .kind s
        | .stored length _ =>
          if length < start + count then refuse .range s
          else match recordsOf? records with
            | none => refuse .range s
            | some vs =>
              if s.runReferenced p then refuse .inUse s
              else
                let t := s.store.writeVectors p start vs
                accept (s.withStore t) (bytesC t.directory[p].generation)

/-- WRITE_VECTORS' payload: 4 + 13 × count bytes, count read from byte 3 (R178). -/
def serveWriteVectors : List Byte → State → Served
  | id :: s1 :: s0 :: count :: body, s =>
    if body.length = 13 * count.toNat then
      writeVectors id (num2 s1 s0) count.toNat (pieces 13 count.toNat body) s
    else refuse .badLength s
  | _, s => refuse .badLength s

/-- WRITE_VECTORS. -/
def execWriteVectors (r : Req) (s : State) : Host.Outcome State Fault Refusal :=
  .next (serveRequest (r.frame Kind.writeVectors) serveWriteVectors s)

/-! ## READ_VECTORS (R32) -/

/-- READ_VECTORS (id, start, count): state, generation, then the records as a counted list (R177). -/
def readVectors (id : Byte) (start count : Nat) (s : State) : Served :=
  match PatternId.ofByte? id with
  | none => refuse .range s
  | some p =>
    if count = 0 || 16 < count then refuse .range s
    else if !(s.store.content p).isDefined then refuse .notDefined s
    else if (s.store.content p).length < start + count then refuse .range s
    else accept s (byte (s.store.content p).code ++ bytesC s.store.directory[p].generation
      ++ byte count ++ (List.range count).flatMap fun j => (s.store.vector p (start + j)).bytes)

/-- READ_VECTORS' payload. -/
def serveReadVectors : List Byte → State → Served
  | [id, s1, s0, count], s => readVectors id (num2 s1 s0) count.toNat s
  | _, s => refuse .badLength s

/-- READ_VECTORS. -/
def execReadVectors (r : Req) (s : State) : Host.Outcome State Fault Refusal :=
  .next (serveRequest (r.frame Kind.readVectors) serveReadVectors s)

/-! ## DELETE_PATTERN (R33) -/

/-- DELETE_PATTERN (id). -/
def deletePattern (id : Byte) (s : State) : Served :=
  unlessLocked s <|
    match PatternId.ofByte? id with
    | none => refuse .range s
    | some p =>
      if !(s.store.content p).isDefined then refuse .notDefined s
      else if s.isNamed p then refuse .inUse s
      else
        let t := s.store.putContent p .undefined
        accept (s.withStore t) (bytesC t.directory[p].generation ++ t.figures)

/-- DELETE_PATTERN's payload. -/
def serveDeletePattern : List Byte → State → Served
  | [id], s => deletePattern id s
  | _, s => refuse .badLength s

/-- DELETE_PATTERN. -/
def execDeletePattern (r : Req) (s : State) : Host.Outcome State Fault Refusal :=
  .next (serveRequest (r.frame Kind.deletePattern) serveDeletePattern s)

/-! ## LIST_PATTERNS (R34) -/

/-- An entry of 7 bytes: state in bits 23..22, length less one in 21..11, base in 10..0, then the
generation (R178). -/
def DirEntry.bytes (e : DirEntry) : List Byte :=
  bytesOf 3 (e.content.code * 2 ^ 22 + (e.content.length - 1) * 2 ^ 11 + e.content.base)
    ++ bytesC e.generation

/-- LIST_PATTERNS: the 32 entries in id order, the free count, the largest free extent. -/
def listPatterns (s : State) : Served :=
  accept s ((List.finRange 32).flatMap (fun p => s.store.directory[p].bytes) ++ s.store.figures)

/-- LIST_PATTERNS' payload. -/
def serveListPatterns : List Byte → State → Served
  | [], s => listPatterns s
  | _, s => refuse .badLength s

/-- LIST_PATTERNS. -/
def execListPatterns (r : Req) (s : State) : Host.Outcome State Fault Refusal :=
  .next (serveRequest (r.frame Kind.listPatterns) serveListPatterns s)

/-! ## PACK_STORE and PACK_COMPLETE (R36, R37) -/

/-- The destinations: the first extent at `cursor`, each later one just above the one before it
(R36). -/
def packFrom (cursor : Nat) : List PackMove → List PackMove
  | [] => []
  | e :: es => { e with dest := cursor } :: packFrom (cursor + e.length) es

/-- The pack's plan: every stored pattern with its destination, in order of base (R36). -/
def Store.packPlan (t : Store) : List PackMove := packFrom 0 t.extents

/-- The vector records a plan moves: the lengths of the patterns not already at their destination
(R36, R37). -/
def movedRecords (plan : List PackMove) : Nat :=
  ((plan.filter fun m => m.dest != m.base).map PackMove.length).sum

/-- Where a plan brings a record, if it lies in an extent. -/
def relocate (plan : List PackMove) (a : Nat) : Option Nat :=
  (plan.find? fun m => m.base ≤ a && a < m.base + m.length).map fun m => m.dest + (a - m.base)

/-- The vector store after a plan: each extent whole at its destination (R37). -/
def Memory.relocated (m : Memory) (plan : List PackMove) : Memory :=
  m.foldl (fun acc c =>
    match relocate plan c.1 with
    | some a => acc.write a c.2
    | none => acc) []

/-- A moved pattern's entry: its base becomes the destination, nothing else changes (R37). -/
def Store.rebase (t : Store) (m : PackMove) : Store :=
  { t with
    directory := t.directory.set m.id.val
      { t.directory[m.id] with content := .stored m.length m.dest } }

/-- The store after a plan has been carried out. -/
def Store.packed (t : Store) (plan : List PackMove) : Store :=
  { plan.foldl Store.rebase t with vectors := t.vectors.relocated plan, pack := none }

/-- The PACK_STORE reply: records moved, free count, largest free extent (R36). -/
def packResults (plan : List PackMove) (t : Store) : List Byte :=
  bytes2 (movedRecords plan) ++ t.figures

/-- The pack completes: the store is packed and the reply to the request in service is placed (R36,
R171). -/
def completePack (f : LinkFrame) (plan : List PackMove) (s : State) : State :=
  let t := s.store.packed plan
  answered f (accept (s.withStore t) (packResults plan t))

/-- PACK_STORE: refused LOCKED or STATE at once; else the pack begins, and completes at once where no
pattern moves (R36). While it lasts its request stays in service at the head of the queue. -/
def packStore (f : LinkFrame) (s : State) : State :=
  if f.payload ≠ [] then answered f (refuse .badLength s)
  else if s.engine.mode = .lockout then answered f (refuse .locked s)
  else if s.engine.mode ≠ .idle then answered f (refuse .state s)
  else if movedRecords s.store.packPlan = 0 then completePack f s.store.packPlan s
  else s.withStore
    { s.store with
      pack := some ⟨s.store.packPlan,
        Config.packTicksPerRecord * movedRecords s.store.packPlan⟩ }

/-- PACK_STORE. -/
def execPackStore (r : Req) (s : State) : Host.Outcome State Fault Refusal :=
  .next (serveFrame (r.frame Kind.packStore) (packStore (r.frame Kind.packStore)) s)

/-- PACK_COMPLETE: the pack in progress completes (R37). With no pack in progress the event does not
occur (log 2). -/
def execPackComplete (s : State) : Host.Outcome State Fault Refusal :=
  match s.store.pack, s.link.requests with
  | some k, f :: _ => .next (completePack f k.moves s)
  | _, _ => .next s

end Sys2Proof.Machine
end

