-- ==== Sys2Proof/Machine/Timing.lean ====
section
/-! DEFINITION. The timing unit (03): the conversion from nanoseconds, SET_TIMING and READ_TIMING, the
pacer's start, stop, strobe and tick, and the wait timer. -/

namespace Sys2Proof.Machine

/-! ## Converting nanoseconds (R42 to R44) -/

/-- The prescaled tick in nanoseconds: 20p (R42). -/
def prescaledNs (p : Nat) : Nat := Config.tickNs * p

/-- A nanosecond value divided by the prescaled tick and rounded; NEAREST takes a quotient exactly
halfway to the even number (R42). -/
def convertNs (mode : Rounding) (ns p : Nat) : Nat :=
  let q := ns / prescaledNs p
  let r := ns % prescaledNs p
  match mode with
  | .down => q
  | .up => if r = 0 then q else q + 1
  | .nearest =>
    if 2 * r < prescaledNs p then q
    else if prescaledNs p < 2 * r then q + 1
    else if q % 2 = 0 then q else q + 1

/-- A conversion is inexact when the value is no multiple of 20p (R42). -/
def inexactNs (ns p : Nat) : Bool := ns % prescaledNs p != 0

/-- The smallest prescale at which the period converts to 65535 ticks or fewer (R43). -/
def choosePrescale (mode : Rounding) (periodNs : Nat) : Option Nat :=
  Config.prescales.find? fun p => convertNs mode periodNs p ≤ Config.maxPeriodTicks

/-- The timing set a period and a strobe convert to, none where the request is refused RANGE: no
prescale fits, the period comes to fewer than 2 ticks, or the strobe tick falls outside 1..P−1
(R41 checks 4, 5; R43, R44). -/
def convertTiming (mode : Rounding) (periodNs strobeNs : Nat) : Option TimingSet :=
  match choosePrescale mode periodNs with
  | none => none
  | some p =>
    let period := convertNs mode periodNs p
    let strobe := convertNs mode strobeNs p
    if period < 2 then none
    else if strobe = 0 || period ≤ strobe then none
    else some
      { prescale := p
        period := period
        strobe := strobe
        requestedPeriod := periodNs
        requestedStrobe := strobeNs
        inexact := inexactNs periodNs p || inexactNs strobeNs p }

/-- The period actually obtained (R45). -/
def TimingSet.periodNs (t : TimingSet) : Nat := t.period * prescaledNs t.prescale

/-- The strobe actually obtained (R45). -/
def TimingSet.strobeNs (t : TimingSet) : Nat := t.strobe * prescaledNs t.prescale

/-- The results of SET_TIMING, in its OK reply and in an INEXACT refusal alike: prescale, ticks, obtained
times, inexact flag. R45 lists these six and calls them five in the refusal, which is read as all of
them (R45; log 21). -/
def TimingSet.results (t : TimingSet) : List Byte :=
  byte t.prescale ++ bytes2 t.period ++ bytes2 t.strobe ++ bytes4 t.periodNs ++ bytes4 t.strobeNs
    ++ bytesB t.inexact

/-- READ_TIMING's results: every field of R40, then the obtained times (R46). -/
def TimingSet.allFields (t : TimingSet) : List Byte :=
  byte t.prescale ++ bytes2 t.period ++ bytes2 t.strobe ++ bytes4 t.requestedPeriod
    ++ bytes4 t.requestedStrobe ++ bytesB t.inexact ++ bytes4 t.periodNs ++ bytes4 t.strobeNs

/-! ## SET_TIMING (R41, R45) -/

/-- SET_TIMING (set, period ns, strobe ns, rounding mode, strict). A request refused INEXACT carries the
results that an accepted one would (R45; log 21). -/
def setTiming (set : Byte) (periodNs strobeNs : Nat) (mode strict : Byte) (s : State) : Served :=
  unlessLocked s <|
    match TimingId.ofByte? set, Rounding.ofByte? mode with
    | some i, some m =>
      if periodNs = 0 || strobeNs = 0 then refuse .range s
      else match convertTiming m periodNs strobeNs with
        | none => refuse .range s
        | some t =>
          if t.inexact && yes strict then refuseWith .inexact t.results s
          else accept
            (s.withTiming { s.timing with sets := s.timing.sets.set i.val t }) t.results
    | _, _ => refuse .range s

/-- SET_TIMING's payload. -/
def serveSetTiming : List Byte → State → Served
  | [set, p3, p2, p1, p0, q3, q2, q1, q0, mode, strict], s =>
    setTiming set (num4 p3 p2 p1 p0) (num4 q3 q2 q1 q0) mode strict s
  | _, s => refuse .badLength s

/-- SET_TIMING. -/
def execSetTiming (r : Req) (s : State) : Host.Outcome State Fault Refusal :=
  .next (serveRequest (r.frame Kind.setTiming) serveSetTiming s)

/-! ## READ_TIMING (R46) -/

/-- READ_TIMING (set). -/
def readTiming (set : Byte) (s : State) : Served :=
  unlessLocked s <|
    match TimingId.ofByte? set with
    | some i => accept s s.timing.sets[i].allFields
    | none => refuse .range s

/-- READ_TIMING's payload. -/
def serveReadTiming : List Byte → State → Served
  | [set], s => readTiming set s
  | _, s => refuse .badLength s

/-- READ_TIMING. -/
def execReadTiming (r : Req) (s : State) : Host.Outcome State Fault Refusal :=
  .next (serveRequest (r.frame Kind.readTiming) serveReadTiming s)

/-! ## The pacer (R47 to R50) -/

/-- The pacer starts a step at count 0 with the values a timing set holds now (R47). -/
def Timing.startPacer (t : Timing) (i : TimingId) : Timing :=
  { t with pacer := some ⟨t.sets[i].prescale, t.sets[i].period, t.sets[i].strobe, 0, 0⟩ }

/-- The pacer is stopped, its count and step values discarded (R50). -/
def Timing.stopPacer (t : Timing) : Timing := { t with pacer := none }

/-- The next tick of running time completes the current count (R47). -/
def PacerStep.countEnds (k : PacerStep) : Bool := k.prescale ≤ k.spent + 1

/-- The strobe is next: that tick begins count S (R47). -/
def PacerStep.strobeDue (k : PacerStep) : Bool := k.countEnds && k.count + 1 = k.strobe

/-- The step end is next: that tick completes count P−1 (R47). -/
def PacerStep.endDue (k : PacerStep) : Bool := k.countEnds && k.period ≤ k.count + 1

/-- Count S begins (R47). -/
def PacerStep.atStrobe (k : PacerStep) : PacerStep := { k with count := k.strobe, spent := 0 }

/-- The pacer stands at the strobe. -/
def Timing.toStrobe (t : Timing) : Timing := { t with pacer := t.pacer.map PacerStep.atStrobe }

/-- A reference tick of running time. The count advances each time 20p ns has passed; the tick that
begins count S and the tick that completes count P−1 are the strobe and the step end, commands of
their own, for which the pacer stands still (R47; log 3). -/
def PacerStep.tick (k : PacerStep) : PacerStep :=
  if k.strobeDue || k.endDue then k
  else if k.countEnds then { k with count := k.count + 1, spent := 0 }
  else { k with spent := k.spent + 1 }

/-! ## The wait timer (R53, R54) -/

/-- Entry to WAITING: loaded with the full timeout and started, or left stopped for a timeout of 0
(R53). -/
def Timing.loadWait (t : Timing) (timeoutMs : Nat) : Timing :=
  { t with waitTimer := ⟨timeoutMs != 0, timeoutMs * Config.ticksPerMs⟩ }

/-- A wait ends: the timer is stopped and its remaining time discarded (R54). -/
def Timing.stopWait (t : Timing) : Timing := { t with waitTimer := WaitTimer.stopped }

/-- A running timer's remaining time has reached 0 (R54). -/
def WaitTimer.expired (w : WaitTimer) : Bool := w.running && w.remaining = 0

end Sys2Proof.Machine
end

