-- ==== Sys2Proof/Machine/Rotation.lean ====
section
/-! DEFINITION. The rotation unit (04): passes, the swap, and the requests EDIT_SLOT, SET_SLOT_COUNT,
READ_ROTATION, COMMIT_ROTATION and WITHDRAW_COMMIT. -/

namespace Sys2Proof.Machine

/-! ## Passes (R59) -/

/-- The positions of one pass over a pattern of length `n`, in order (R59). -/
def passPositions (d : Direction) (n : Nat) : List Position :=
  match d with
  | .forward => (List.range n).map fun i => ⟨i, .ascending⟩
  | .reverse => (List.range n).reverse.map fun i => ⟨i, .descending⟩
  | .pingpong =>
    ((List.range n).map fun i => ⟨i, .ascending⟩)
      ++ (((List.range (n - 1)).drop 1).reverse.map fun i => ⟨i, .descending⟩)

/-- The pass's first position. -/
def firstPosition (d : Direction) (n : Nat) : Position :=
  (passPositions d n).head?.getD ⟨0, .ascending⟩

/-- The rest of the pass from a position on, that position first; its length is the steps remaining
(R59). -/
def restOfPass (d : Direction) (n : Nat) (p : Position) : List Position :=
  (passPositions d n).dropWhile (· ≠ p)

/-- The position `k` entries later in the pass, none where the pass ends before it: the successor for
`k` = 1 (R59), a skip's landing for `k` = the skip-on-return (R110). -/
def positionAfter (d : Direction) (n : Nat) (p : Position) (k : Nat) : Option Position :=
  (restOfPass d n p)[k]?

/-- A position suited to a direction: it appears in that direction's list (R59). -/
def suited (d : Direction) (n : Nat) (p : Position) : Bool := (passPositions d n).contains p

/-! ## The swap (R66) -/

/-- A swap: the active rotation becomes a copy of the pending one, the version increases, the flag is
cleared, and SWAP_DONE is made (R66). -/
def swapNow (manner : SwapManner) (s : State) : State :=
  let u : RotationUnit :=
    { s.rotation with
      active := s.rotation.pendingRot
      version := s.rotation.version + 1
      swapWaiting := false }
  (s.withRotation u).notice .swapDone (bytesC u.version ++ byte u.active.count ++ [manner.code])

/-- A waiting swap is carried out, if there is one (R68, R69). -/
def swapIfWaiting (manner : SwapManner) (s : State) : State :=
  if s.rotation.swapWaiting then swapNow manner s else s

/-! ## EDIT_SLOT (R61) -/

/-- EDIT_SLOT (index, pattern id, dwell, direction, timing set). -/
def editSlot (index pattern dwell direction timing : Byte) (s : State) : Served :=
  unlessLocked s <|
    if s.rotation.swapWaiting then refuse .swapWaiting s
    else match SlotIndex.ofByte? index, PatternId.ofByte? pattern, Direction.ofByte? direction,
        TimingId.ofByte? timing with
      | some i, some p, some d, some t =>
        if dwell = 0 then refuse .range s
        else
          let slots := s.rotation.pendingRot.slots.set i.val ⟨p, dwell.toNat, d, t⟩
          accept (s.withRotation
            { s.rotation with pendingRot := { s.rotation.pendingRot with slots := slots } }) []
      | _, _, _, _ => refuse .range s

/-- EDIT_SLOT's payload. -/
def serveEditSlot : List Byte → State → Served
  | [index, pattern, dwell, direction, timing], s => editSlot index pattern dwell direction timing s
  | _, s => refuse .badLength s

/-- EDIT_SLOT. -/
def execEditSlot (r : Req) (s : State) : Host.Outcome State Fault Refusal :=
  .next (serveRequest (r.frame Kind.editSlot) serveEditSlot s)

/-! ## SET_SLOT_COUNT (R62) -/

/-- SET_SLOT_COUNT (count). -/
def setSlotCount (count : Byte) (s : State) : Served :=
  unlessLocked s <|
    if s.rotation.swapWaiting then refuse .swapWaiting s
    else if 16 < count.toNat then refuse .range s
    else accept (s.withRotation
      { s.rotation with pendingRot := { s.rotation.pendingRot with count := count.toNat } }) []

/-- SET_SLOT_COUNT's payload. -/
def serveSetSlotCount : List Byte → State → Served
  | [count], s => setSlotCount count s
  | _, s => refuse .badLength s

/-- SET_SLOT_COUNT. -/
def execSetSlotCount (r : Req) (s : State) : Host.Outcome State Fault Refusal :=
  .next (serveRequest (r.frame Kind.setSlotCount) serveSetSlotCount s)

/-! ## READ_ROTATION (R63) -/

/-- The rotation READ_ROTATION names. -/
def RotationUnit.which (u : RotationUnit) : WhichRotation → Rotation
  | .active => u.active
  | .pending => u.pendingRot

/-- READ_ROTATION (which): slot count, sixteen records, active version, swap-waiting flag. -/
def readRotation (which : Byte) (s : State) : Served :=
  match WhichRotation.ofByte? which with
  | none => refuse .range s
  | some w =>
    let r := s.rotation.which w
    accept s (byte r.count ++ (List.finRange 16).flatMap (fun i => r.slots[i].bytes)
      ++ bytesC s.rotation.version ++ bytesB s.rotation.swapWaiting)

/-- READ_ROTATION's payload. -/
def serveReadRotation : List Byte → State → Served
  | [which], s => readRotation which s
  | _, s => refuse .badLength s

/-- READ_ROTATION. -/
def execReadRotation (r : Req) (s : State) : Host.Outcome State Fault Refusal :=
  .next (serveRequest (r.frame Kind.readRotation) serveReadRotation s)

/-! ## COMMIT_ROTATION (R64, R65) -/

/-- The lowest slot below the count for which `bad` holds. -/
def Rotation.lowest? (r : Rotation) (bad : Slot → Bool) : Option SlotIndex :=
  (List.finRange 16).find? fun i => i.val < r.count && bad r.slots[i]

/-- COMMIT_ROTATION: the swap waits during a live rotation run, and is made at once otherwise
(R65). -/
def commitRotation (s : State) : Served :=
  unlessLocked s <|
    if s.rotation.swapWaiting then refuse .swapWaiting s
    else if s.rotation.pendingRot.count = 0 then refuse .empty s
    else match s.rotation.pendingRot.lowest? fun x => x.dwell = 0 with
      | some i => refuseWith .range (byte i.val) s
      | none =>
        match s.rotation.pendingRot.lowest? fun x => !(s.store.content x.pattern).isDefined with
        | some i => refuseWith .notDefined (byte i.val) s
        | none =>
          if s.engine.rotationLive then
            accept (s.withRotation { s.rotation with swapWaiting := true })
              (bytesB true ++ bytesC s.rotation.version)
          else accept (swapNow .immediate s) (bytesB false ++ bytesC (s.rotation.version + 1))

/-- COMMIT_ROTATION's payload. -/
def serveCommitRotation : List Byte → State → Served
  | [], s => commitRotation s
  | _, s => refuse .badLength s

/-- COMMIT_ROTATION. -/
def execCommitRotation (r : Req) (s : State) : Host.Outcome State Fault Refusal :=
  .next (serveRequest (r.frame Kind.commitRotation) serveCommitRotation s)

/-! ## WITHDRAW_COMMIT (R70) -/

/-- WITHDRAW_COMMIT. -/
def withdrawCommit (s : State) : Served :=
  unlessLocked s <|
    if s.rotation.swapWaiting then
      accept (s.withRotation { s.rotation with swapWaiting := false }) []
    else refuse .notWaiting s

/-- WITHDRAW_COMMIT's payload. -/
def serveWithdrawCommit : List Byte → State → Served
  | [], s => withdrawCommit s
  | _, s => refuse .badLength s

/-- WITHDRAW_COMMIT. -/
def execWithdrawCommit (r : Req) (s : State) : Host.Outcome State Fault Refusal :=
  .next (serveRequest (r.frame Kind.withdrawCommit) serveWithdrawCommit s)

end Sys2Proof.Machine
end

