-- ==== Sys2Proof/Machine/Run.lean ====
section
/-! DEFINITION. The run: how the position moves, the step start, the run end, the run start, taking a
splice, and the lockout (05, 06). Requests, triggers and pacer events share these operations. -/

namespace Sys2Proof.Machine

/-! ## Frames (R60, R80) -/

/-- The length of a frame's pattern, as the directory gives it. -/
def State.lengthOf (s : State) (f : RunFrame) : Nat := (s.store.content f.pattern).length

/-- The direction of a frame's pass: its slot's for BASE, FORWARD for SPLICE (R80). -/
def State.directionOf (s : State) (f : RunFrame) : Direction :=
  match f.base with
  | some b => s.rotation.active.slots[b.slot].direction
  | none => .forward

/-- The base frame set up from a slot of the active rotation (R60). -/
def State.setupBase (s : State) (slot : SlotIndex) : RunFrame :=
  let r := s.rotation.active.slots[slot]
  { pattern := r.pattern
    pos := firstPosition r.direction (s.store.content r.pattern).length
    timing := r.timing
    base := some ⟨slot, r.dwell⟩ }

/-- The SPLICE frame that a splice makes live: index 0, ASCENDING (R105 step 5). -/
def Splice.frame (x : Splice) : RunFrame := ⟨x.pattern, ⟨0, .ascending⟩, x.timing, none⟩

/-- Another live frame and context stack. -/
def State.putFrames (s : State) (f : RunFrame) (stack : List SavedFrame) : State :=
  s.withEngine { s.engine with live := some f, stack := stack }

/-- The live frame is pushed with the splice's skip and the splice's frame becomes live (R105). -/
def Engine.pushed (e : Engine) (x : Splice) : Engine :=
  match e.live with
  | some f => { e with live := some x.frame, stack := ⟨f, x.skip⟩ :: e.stack }
  | none => e

/-! ## Moving the position (R81, R84, R110, R111) -/

/-- Where a move brings the run: to a live frame over a context stack, or to the wrap. -/
inductive Moved
  | frame (live : RunFrame) (stack : List SavedFrame)
  | wrap
  deriving DecidableEq, Repr

/-- A slot end: the next slot is set up, or the wrap is reached (R81 step 3). -/
def State.slotEnd (s : State) (b : BasePlace) : Moved :=
  if h : b.slot.val + 1 < 16 then
    if b.slot.val + 1 < s.rotation.active.count then
      .frame (s.setupBase ⟨b.slot.val + 1, h⟩) []
    else .wrap
  else .wrap

/-- The end of a BASE frame's pass: a new pass, or the slot end (R81 step 2). -/
def State.basePassEnd (s : State) (f : RunFrame) (b : BasePlace) : Moved :=
  if 1 < b.passesLeft then
    .frame
      { f with
        pos := firstPosition (s.directionOf f) (s.lengthOf f)
        base := some { b with passesLeft := b.passesLeft - 1 } }
      []
  else s.slotEnd b

/-- A pop: the saved frame on top resumes, moved on by its skip; a skip that ends its pass ends the
slot's pass of a BASE frame, and pops a SPLICE frame in turn (R110, R111). The bottom frame is BASE,
so the empty stack is met in no run (log 12). -/
def State.pop (s : State) : List SavedFrame → Moved
  | [] => .wrap
  | g :: rest =>
    match positionAfter (s.directionOf g.frame) (s.lengthOf g.frame) g.frame.pos g.skip with
    | some p => .frame { g.frame with pos := p } rest
    | none =>
      match g.frame.base with
      | some b => s.basePassEnd g.frame b
      | none => s.pop rest

/-- A pass end of the live frame (R81 step 2). -/
def State.passEnd (s : State) (f : RunFrame) (stack : List SavedFrame) : Moved :=
  match f.base with
  | some b => s.basePassEnd f b
  | none => s.pop stack

/-- The live frame moves on: to its successor, or through its pass end (R81). -/
def State.moveOn (s : State) (f : RunFrame) (stack : List SavedFrame) : Moved :=
  match positionAfter (s.directionOf f) (s.lengthOf f) f.pos 1 with
  | some p => .frame { f with pos := p } stack
  | none => s.passEnd f stack

/-- An advance: the slot ends for BASE, the frame is popped for SPLICE (R84). -/
def State.advanceOn (s : State) (f : RunFrame) (stack : List SavedFrame) : Moved :=
  match f.base with
  | some b => s.slotEnd b
  | none => s.pop stack

/-! ## The run end (R94) -/

/-- Step 3: frames, pending splice, kept record, latches and pending stop are cleared. -/
def Engine.clearRun (e : Engine) : Engine :=
  { e with
    live := none
    stack := []
    pendingSplice := none
    stepRecord := none
    releaseLatch := false
    advanceLatch := false
    pendingStop := .none }

/-- The causes at which no idle policy is applied (R94 step 2). -/
def StopCause.keepsLevels (c : StopCause) : Bool := c = .lockout || c = .engineReset

/-- The engine state that a run end leaves (R94 step 7). -/
def StopCause.modeAfter (c : StopCause) : EngineState := if c = .lockout then .lockout else .idle

/-- Steps 1 to 3: pacer and wait timer stopped, the idle policy applied, the frames discarded; a
survey's position becomes absent (R152). -/
def endSteps (cause : StopCause) (s : State) : State :=
  { s with
    timing := s.timing.stopPacer.stopWait
    output := if cause.keepsLevels then s.output else s.output.applyIdle
    engine := s.engine.clearRun
    survey := { s.survey with position := none } }

/-- Step 5: the stop cause and the verdict. -/
def recordEnd (cause : StopCause) (s : State) : State :=
  s.withEngine
    { s.engine with
      lastStop := cause
      verdict := verdictOf cause s.checker.failingSteps s.engine.quarantineInRun
        s.engine.continuityFail }

/-- What the RUN_END notice carries (R94 step 6, R178). -/
def State.runEndPayload (s : State) : List Byte :=
  [s.engine.lastStop.code, s.engine.verdict.code, s.engine.runKind.code]
    ++ bytesC s.engine.stepCounter ++ bytes2 s.checker.failingSteps

/-- Steps 6 and 7: the RUN_END notice, then the engine state. -/
def closeRun (cause : StopCause) (s : State) : State :=
  let t := s.notice .runEnd s.runEndPayload
  t.withEngine { t.engine with mode := cause.modeAfter }

/-- The run end, "carried out as one event in this order" (R94). -/
def runEnd (cause : StopCause) (s : State) : State :=
  closeRun cause (recordEnd cause (swapIfWaiting .runEnd (endSteps cause s)))

/-- The run end with cause LOCKOUT, and the LOCKOUT notice after it (R97). -/
def enterLockout (s : State) : State :=
  let t := runEnd .lockout s
  t.notice .lockout
    (bytesL t.checker.quarantine ++ bytesC t.engine.stepCounter ++ bytes2 t.checker.failingSteps)

/-! ## The step start (R85) -/

/-- What the MARK notice carries (R85, R178). -/
def State.markPayload (s : State) : List Byte :=
  bytesC s.engine.stepCounter ++ byte s.engine.depth ++ placeBytes s.engine.place

/-- The step starts: LATCHED banks copy, the wait is over, the pacer starts at count 0 with the values
of the live frame's timing set, and MARK is made if the record carries it (R85 step 3). -/
def beginStep (f : RunFrame) (v : VectorRec) (s : State) : State :=
  let t : State :=
    { s with
      output := s.output.latchedCopy
      timing := s.timing.stopWait.startPacer f.timing
      engine := { s.engine with mode := .running } }
  if v.mark then t.notice .mark t.markPayload else t

/-- The vector of the live frame is fetched, kept and staged (R85 steps 1 to 3, R2). -/
def stageStep (v : VectorRec) (s : State) : State :=
  { s with
    output := s.output.stage v.drive
    engine := { s.engine with stepRecord := some v } }

/-- Entry to WAITING (R85 step 2, R53). -/
def enterWaiting (s : State) : State :=
  { s with
    timing := s.timing.stopPacer.loadWait s.engine.options.waitTimeout
    engine := { s.engine with mode := .waiting } }

/-- The release latch is consumed by the start of a WAIT step (R85 step 3). -/
def consumeRelease (v : VectorRec) (s : State) : State :=
  if v.wait then s.withEngine { s.engine with releaseLatch := false } else s

/-- A step start of a rotation run (R85). Without a live frame there is none (log 12). -/
def stepStart (s : State) : State :=
  match s.engine.live with
  | none => s
  | some f =>
    let v := s.store.vector f.pattern f.pos.index
    if v.wait && !s.engine.releaseLatch then enterWaiting (stageStep v s)
    else beginStep f v (consumeRelease v (stageStep v s))

/-- The waiting step starts: its vector "is not fetched or staged a second time" (R85). -/
def startWaitingStep (s : State) : State :=
  match s.engine.live, s.engine.stepRecord with
  | some f, some v => beginStep f v (consumeRelease v s)
  | _, _ => s

/-! ## The wrap (R82) and the step end (R87) -/

/-- A move carried out: the frames it names, or the wrap with its swap and its decision between
COMPLETE and slot 0 (R82). -/
def settle (m : Moved) (s : State) : State :=
  match m with
  | .frame f stack => s.putFrames f stack
  | .wrap =>
    let t := swapIfWaiting .wrap s
    match t.engine.options.mode with
    | .oneShot => runEnd .complete t
    | .continuous => t.putFrames (t.setupBase 0) []

/-- "Unless the run has ended, the next step start is then made at once" (R87). -/
def goOn (s : State) : State := if s.engine.mode.isLive then stepStart s else s

/-- The pending splice is taken, unless the move before it ended the run (R105 steps 4 to 6). -/
def takePending (x : Splice) (s : State) : State :=
  if s.engine.mode.isLive then
    stepStart (s.withEngine { s.engine.pushed x with pendingSplice := none })
  else s

/-- The step is over: the pacer is stopped, and the step counter increases (R47, R87). -/
def countStep (s : State) : State :=
  { s with
    timing := s.timing.stopPacer
    engine := { s.engine with stepCounter := s.engine.stepCounter + 1 } }

/-- Steps 2 to 4 of R87: a pending splice, the advance latch, or the plain move. -/
def endMove (f : RunFrame) (s : State) : State :=
  match s.engine.pendingSplice with
  | some x => takePending x (settle (s.moveOn f s.engine.stack) s)
  | none =>
    if s.engine.advanceLatch then
      goOn (settle (s.advanceOn f s.engine.stack)
        (s.withEngine { s.engine with advanceLatch := false }))
    else goOn (settle (s.moveOn f s.engine.stack) s)

/-- The cause that a pending stop ends the run with (R87 step 1). -/
def PendingStop.cause? : PendingStop → Option StopCause
  | .none => Option.none
  | .failLimit => some .failLimit
  | .quarantineStop => some .quarantineStop

/-- The step end of a rotation run (R87). -/
def rotationStepEnd (s : State) : State :=
  let t := countStep s
  match t.engine.pendingStop.cause? with
  | some c => runEnd c t
  | none =>
    match t.engine.live with
    | some f => endMove f t
    | none => t

/-! ## The run start (R79) -/

/-- The fail log, the mismatch counts and LOG_OVERFLOW are cleared where clear-at-start is on
(R79 step 6). -/
def Checker.clearLog (c : Checker) : Checker :=
  { c with mismatchCounts := Vector.replicate 24 0, failLog := [], logOverflow := false }

/-- The checker's part of a rotation run's start (R79 steps 3, 6). -/
def Checker.startRun (c : Checker) (clear : Bool) : Checker :=
  let d : Checker := { c with failingSteps := 0, firstFailNotified := false }
  if clear then d.clearLog else d

/-- The engine's part of every run start: run kind, verdict, the two run flags, the pending stop and
the latches (R79 steps 1, 2, 4, 5). -/
def Engine.startRun (e : Engine) (kind : RunKind) : Engine :=
  { e with
    mode := .running
    runKind := kind
    verdict := .none
    quarantineInRun := false
    continuityFail := false
    pendingStop := .none
    releaseLatch := false
    advanceLatch := false }

/-- A run start from ARMED, with its first step start (R79). -/
def startRun (s : State) : State :=
  stepStart
    { s with
      engine :=
        { s.engine.startRun .rotation with
          stepCounter := 0
          live := some (s.setupBase 0)
          stack := [] }
      checker := s.checker.startRun s.engine.options.clearAtStart }

/-! ## Taking a splice (R103 to R108) -/

/-- The first checks of a splice: LOCKOUT, then a live rotation run (R103 checks 1, 2). -/
def State.spliceGate (s : State) : Option Status :=
  if s.engine.mode = .lockout then some .locked
  else if !s.engine.rotationLive then some .state
  else none

/-- Its last checks: a defined pattern, an empty pending slot, room on the stack (R103 checks 4 to
6). -/
def State.spliceRoom (s : State) (x : Splice) : Option Status :=
  if !(s.store.content x.pattern).isDefined then some .notDefined
  else if s.engine.pendingSplice.isSome then some .busy
  else if Config.stackLimit ≤ s.engine.depth then some .stackFull
  else none

/-- An accepted splice while a step is in progress waits in the pending slot (R104). -/
def pendSplice (x : Splice) (s : State) : State :=
  s.withEngine { s.engine with pendingSplice := some x }

/-- An accepted splice in WAITING: the wait ends, and the splice's first step start is made (R107). -/
def spliceInWaiting (x : Splice) (s : State) : State :=
  stepStart
    { s with
      timing := s.timing.stopWait
      engine := { s.engine.pushed x with mode := .running } }

/-- An accepted splice in HELD from WAITING or BOUNDARY: the wait ends, no step starts, and the origin
is BOUNDARY (R108). The abandoned step's kept record is dropped with it (log 14). -/
def spliceInHeld (x : Splice) (s : State) : State :=
  { s with
    timing := s.timing.stopWait
    engine := { s.engine.pushed x with mode := .held .boundary, stepRecord := none } }

/-- A splice is taken at once where no step is in progress (R104). -/
def EngineState.takesAtOnce : EngineState → Bool
  | .idle => false
  | .armed => false
  | .running => false
  | .waiting => true
  | .held .running => false
  | .held .waiting => true
  | .held .boundary => true
  | .lockout => false

/-- An accepted splice: taken at once or pending (R104). -/
def acceptSplice (x : Splice) (s : State) : State :=
  if s.engine.mode.takesAtOnce then
    if s.engine.mode = .waiting then spliceInWaiting x s else spliceInHeld x s
  else pendSplice x s

/-! ## Stop, release, advance (R83, R88, R93) -/

/-- An ARMED engine becomes IDLE; no run has been live, so there is no run end (R77). -/
def disarmed (s : State) : State := s.withEngine { s.engine with mode := .idle }

/-- A stop: the run ends, or an ARMED engine is disarmed (R93). -/
def stopped (cause : StopCause) (s : State) : State :=
  if s.engine.mode = .armed then disarmed s else runEnd cause s

/-- The release latch set (R88 step 5). -/
def latchRelease (s : State) : State := s.withEngine { s.engine with releaseLatch := true }

/-- The advance latch set (R83). -/
def latchAdvance (s : State) : State := s.withEngine { s.engine with advanceLatch := true }

/-- A release is taken in WAITING and in HELD of a rotation run (R88). -/
def Engine.takesRelease (e : Engine) : Bool := e.rotationLive && e.mode != .running

/-- A release taken: the waiting step starts, or the release is latched (R88 steps 4, 5). -/
def released (s : State) : State :=
  if s.engine.mode = .waiting then startWaitingStep s else latchRelease s

end Sys2Proof.Machine
end

