-- ==== Sys2Proof/Machine/Engine.lean ====
section
/-! DEFINITION. The run engine's requests STATUS, POSITION, RESET_ENGINE, ARM, DISARM, START, STOP,
HOLD, CONTINUE, RELEASE and ADVANCE, and the events STEP_END and WAIT_TIMEOUT (05). -/

namespace Sys2Proof.Machine

/-! ## STATUS (R99) -/

/-- The status record after its status byte (R178). -/
def State.statusRecord (s : State) : List Byte :=
  [s.engine.mode.code, s.engine.runKind.code, s.engine.lastStop.code, s.engine.verdict.code]
    ++ byte s.engine.depth ++ byte s.checker.quarantinedCount ++ byte s.checker.failLog.length
    ++ bytesC s.engine.stepCounter ++ [s.statusFlags]

/-- STATUS: LINK_ERROR and NOTICE_LOST are cleared once their values are in the reply. -/
def status (s : State) : Served :=
  accept (s.withLink { s.link with linkError := false, noticeLost := false }) s.statusRecord

/-- STATUS' payload. -/
def serveStatus : List Byte → State → Served
  | [], s => status s
  | _, s => refuse .badLength s

/-- STATUS. -/
def execStatus (r : Req) (s : State) : Host.Outcome State Fault Refusal :=
  .next (serveRequest (r.frame Kind.status) serveStatus s)

/-! ## POSITION (R98) -/

/-- Every frame, base first and the live frame last, each with its skip-on-return, 0 for the live
frame (R80, R178). -/
def Engine.frames (e : Engine) : List SavedFrame :=
  match e.live with
  | some f => e.stack.reverse ++ [⟨f, 0⟩]
  | none => []

/-- The pending splice: a flag, then its three fields (R98, R177). -/
def pendingSpliceBytes : Option Splice → List Byte
  | some x => bytesB true ++ x.bytes
  | none => bytesB false ++ absent 3

/-- The wait timer's remaining time is reported in WAITING, and in HELD from WAITING (R98). -/
def EngineState.reportsWait : EngineState → Bool
  | .idle => false
  | .armed => false
  | .running => false
  | .waiting => true
  | .held .running => false
  | .held .waiting => true
  | .held .boundary => false
  | .lockout => false

/-- The remaining time in milliseconds, absent outside a wait (R53, R98). -/
def State.waitBytes (s : State) : List Byte :=
  if s.engine.mode.reportsWait then bytes2 s.timing.waitTimer.millis else absent 2

/-- POSITION's results, in the order of R98; the frames as a counted list (R177). -/
def State.positionRecord (s : State) : List Byte :=
  [s.engine.mode.code] ++ s.engine.mode.originBytes ++ [s.engine.runKind.code]
    ++ byte s.engine.depth ++ byte s.engine.frames.length
    ++ s.engine.frames.flatMap (fun g => g.frame.bytes g.skip) ++ bytesC s.engine.stepCounter
    ++ [s.engine.pendingStop.code] ++ pendingSpliceBytes s.engine.pendingSplice
    ++ bytesB s.engine.releaseLatch ++ bytesB s.engine.advanceLatch ++ s.waitBytes

/-- POSITION's payload; reading changes no state. -/
def servePosition : List Byte → State → Served
  | [], s => accept s s.positionRecord
  | _, s => refuse .badLength s

/-- POSITION. -/
def execPosition (r : Req) (s : State) : Host.Outcome State Fault Refusal :=
  .next (serveRequest (r.frame Kind.position) servePosition s)

/-! ## RESET_ENGINE (R100) -/

/-- The engine-reset values of R17. -/
def Output.engineReset (o : Output) : Output := o.holdAll .z

/-- The engine-reset values of R55. -/
def Timing.engineReset (t : Timing) : Timing := t.stopPacer.stopWait

/-- The engine-reset values of R101; the snapshots are kept (R127). -/
def Engine.engineReset (e : Engine) : Engine :=
  { Engine.reset with lastStop := .engineReset, snapshots := e.snapshots }

/-- The engine-reset values of R146; threshold, limit and action are kept. -/
def Checker.engineReset (c : Checker) : Checker :=
  { Checker.reset with
    faultThreshold := c.faultThreshold
    quarantineLimit := c.quarantineLimit
    quarantineAction := c.quarantineAction }

/-- The engine-reset values of R160; the reference map is kept. -/
def Survey.engineReset (v : Survey) : Survey :=
  { Survey.reset with reference := v.reference, referencePresent := v.referencePresent }

/-- The engine-reset values of R167; only the captures go. -/
def Trigger.engineReset (t : Trigger) : Trigger := { t with latest := none, previous := none }

/-- Every block's engine-reset values (R100 steps 2, 3). -/
def resetBlocks (s : State) : State :=
  { s with
    output := s.output.engineReset
    timing := s.timing.engineReset
    engine := s.engine.engineReset
    checker := s.checker.engineReset
    survey := s.survey.engineReset
    trigger := s.trigger.engineReset }

/-- An engine reset: a live run ends first, with cause ENGINE_RESET (R100 step 1). -/
def engineReset (s : State) : State :=
  resetBlocks (if s.engine.mode.isLive then runEnd .engineReset s else s)

/-- RESET_ENGINE's payload; no state refuses it. -/
def serveResetEngine : List Byte → State → Served
  | [], s => accept (engineReset s) []
  | _, s => refuse .badLength s

/-- RESET_ENGINE. -/
def execResetEngine (r : Req) (s : State) : Host.Outcome State Fault Refusal :=
  .next (serveRequest (r.frame Kind.resetEngine) serveResetEngine s)

/-! ## ARM (R76) -/

/-- ARM (mode, stop-on-fail count, wait timeout, clear-at-start). -/
def arm (mode stopOnFail : Byte) (waitTimeout : Nat) (clear : Byte) (s : State) : Served :=
  unlessLocked s <|
    if s.engine.mode.isLive then refuse .state s
    else match RunMode.ofByte? mode with
      | none => refuse .range s
      | some m =>
        if s.rotation.active.count = 0 then refuse .empty s
        else
          let o : Options := ⟨m, stopOnFail.toNat, waitTimeout, yes clear⟩
          accept (s.withEngine { s.engine with mode := .armed, options := o }) []

/-- ARM's payload. -/
def serveArm : List Byte → State → Served
  | [mode, stopOnFail, w1, w0, clear], s => arm mode stopOnFail (num2 w1 w0) clear s
  | _, s => refuse .badLength s

/-- ARM. -/
def execArm (r : Req) (s : State) : Host.Outcome State Fault Refusal :=
  .next (serveRequest (r.frame Kind.arm) serveArm s)

/-! ## DISARM (R77) -/

/-- DISARM. -/
def disarm (s : State) : Served :=
  unlessLocked s <|
    if s.engine.mode = .armed then accept (disarmed s) [] else refuse .state s

/-- DISARM's payload. -/
def serveDisarm : List Byte → State → Served
  | [], s => disarm s
  | _, s => refuse .badLength s

/-- DISARM. -/
def execDisarm (r : Req) (s : State) : Host.Outcome State Fault Refusal :=
  .next (serveRequest (r.frame Kind.disarm) serveDisarm s)

/-! ## START (R78) -/

/-- START. -/
def start (s : State) : Served :=
  unlessLocked s <|
    if s.engine.mode = .armed then accept (startRun s) [] else refuse .state s

/-- START's payload. -/
def serveStart : List Byte → State → Served
  | [], s => start s
  | _, s => refuse .badLength s

/-- START. -/
def execStart (r : Req) (s : State) : Host.Outcome State Fault Refusal :=
  .next (serveRequest (r.frame Kind.start) serveStart s)

/-! ## STOP (R93) -/

/-- STOP. -/
def stop (s : State) : Served :=
  unlessLocked s <|
    if s.engine.mode = .idle then refuse .state s else accept (stopped .hostStop s) []

/-- STOP's payload. -/
def serveStop : List Byte → State → Served
  | [], s => stop s
  | _, s => refuse .badLength s

/-- STOP. -/
def execStop (r : Req) (s : State) : Host.Outcome State Fault Refusal :=
  .next (serveRequest (r.frame Kind.stop) serveStop s)

/-! ## HOLD (R89) -/

/-- HOLD: pacer and wait timer freeze in HELD, where no tick reaches them (R49, R53). -/
def hold (s : State) : Served :=
  unlessLocked s <|
    if s.engine.mode = .running then
      accept (s.withEngine { s.engine with mode := .held .running }) []
    else if s.engine.mode = .waiting then
      accept (s.withEngine { s.engine with mode := .held .waiting }) []
    else refuse .state s

/-- HOLD's payload. -/
def serveHold : List Byte → State → Served
  | [], s => hold s
  | _, s => refuse .badLength s

/-- HOLD. -/
def execHold (r : Req) (s : State) : Host.Outcome State Fault Refusal :=
  .next (serveRequest (r.frame Kind.hold) serveHold s)

/-! ## CONTINUE (R90) -/

/-- What CONTINUE does from a held origin (R90). -/
def continueFrom (o : HeldOrigin) (s : State) : State :=
  match o with
  | .running => s.withEngine { s.engine with mode := .running }
  | .waiting =>
    if s.engine.releaseLatch then startWaitingStep s
    else s.withEngine { s.engine with mode := .waiting }
  | .boundary => stepStart (s.withEngine { s.engine with mode := .running })

/-- The held origin, in HELD alone (R73). -/
def EngineState.origin? : EngineState → Option HeldOrigin
  | .idle => none
  | .armed => none
  | .running => none
  | .waiting => none
  | .held o => some o
  | .lockout => none

/-- CONTINUE. -/
def continueRun (s : State) : Served :=
  unlessLocked s <|
    match s.engine.mode.origin? with
    | some o => accept (continueFrom o s) []
    | none => refuse .state s

/-- CONTINUE's payload. -/
def serveContinueRun : List Byte → State → Served
  | [], s => continueRun s
  | _, s => refuse .badLength s

/-- CONTINUE. -/
def execContinueRun (r : Req) (s : State) : Host.Outcome State Fault Refusal :=
  .next (serveRequest (r.frame Kind.continueRun) serveContinueRun s)

/-! ## RELEASE (R88) -/

/-- RELEASE. -/
def release (s : State) : Served :=
  unlessLocked s <|
    if s.engine.takesRelease then accept (released s) [] else refuse .state s

/-- RELEASE's payload. -/
def serveRelease : List Byte → State → Served
  | [], s => release s
  | _, s => refuse .badLength s

/-- RELEASE. -/
def execRelease (r : Req) (s : State) : Host.Outcome State Fault Refusal :=
  .next (serveRequest (r.frame Kind.release) serveRelease s)

/-! ## ADVANCE (R83) -/

/-- ADVANCE. -/
def advance (s : State) : Served :=
  unlessLocked s <|
    if s.engine.rotationLive then accept (latchAdvance s) [] else refuse .state s

/-- ADVANCE's payload. -/
def serveAdvance : List Byte → State → Served
  | [], s => advance s
  | _, s => refuse .badLength s

/-- ADVANCE. -/
def execAdvance (r : Req) (s : State) : Host.Outcome State Fault Refusal :=
  .next (serveRequest (r.frame Kind.advance) serveAdvance s)

/-! ## STEP_END (R87) -/

/-- The pacer runs a step of a run of this kind and completes its last count (R47, R48; log 3). -/
def State.stepEnds (s : State) (kind : RunKind) : Bool :=
  s.engine.mode = .running && s.engine.runKind = kind && s.timing.pacer.any PacerStep.endDue

/-- STEP_END; where no rotation step completes its last count, the event does not occur (log 2). -/
def execStepEnd (s : State) : Host.Outcome State Fault Refusal :=
  .next (if s.stepEnds .rotation then rotationStepEnd s else s)

/-! ## WAIT_TIMEOUT (R91) -/

/-- WAIT_TIMEOUT: the remaining time has reached 0 in WAITING (R54, R91); elsewhere the event does not
occur (log 2). -/
def execWaitTimeout (s : State) : Host.Outcome State Fault Refusal :=
  .next (if s.engine.mode = .waiting && s.timing.waitTimer.expired then runEnd .waitTimeout s
    else s)

end Sys2Proof.Machine
end

