-- ==== Sys2Proof/Machine/Splice.lean ====
section
/-! DEFINITION. The SPLICE request (06); taking a splice is an operation of the run, in Run. -/

namespace Sys2Proof.Machine

/-- SPLICE's reply: the taken flag, and the stack depth after the request is served (R104). -/
def spliceResults (taken : Bool) (t : State) : List Byte := bytesB taken ++ byte t.engine.depth

/-- SPLICE (pattern id, timing set, skip-on-return). -/
def splice (pattern timing skip : Byte) (s : State) : Served :=
  match s.spliceGate with
  | some st => refuse st s
  | none =>
    match PatternId.ofByte? pattern, TimingId.ofByte? timing with
    | some p, some t =>
      let x : Splice := ⟨p, t, skip.toNat⟩
      match s.spliceRoom x with
      | some st => refuse st s
      | none =>
        accept (acceptSplice x s) (spliceResults s.engine.mode.takesAtOnce (acceptSplice x s))
    | _, _ => refuse .range s

/-- SPLICE's payload. -/
def serveSplice : List Byte → State → Served
  | [pattern, timing, skip], s => splice pattern timing skip s
  | _, s => refuse .badLength s

/-- SPLICE. -/
def execSplice (r : Req) (s : State) : Host.Outcome State Fault Refusal :=
  .next (serveRequest (r.frame Kind.splice) serveSplice s)

end Sys2Proof.Machine
end

