-- ==== Sys2Proof/Machine/Snapshot.lean ====
section
/-! DEFINITION. Suspend, resume and the four snapshots (07): SUSPEND, RESUME, READ_SNAPSHOT,
LOAD_SNAPSHOT and DISCARD_SNAPSHOT. -/

namespace Sys2Proof.Machine

/-! ## Frames of snapshots -/

/-- A frame of the run as a snapshot keeps it, with its skip and its pattern's generation (R118); a
SPLICE frame's slot index and passes left are the layout's 0xFF (R178). -/
def State.snapFrame (s : State) (g : SavedFrame) : SnapFrame :=
  { kind := if g.frame.base.isSome then .base else .splice
    pattern := g.frame.pattern
    slot := (g.frame.base.map fun b => BitVec.ofNat 8 b.slot.val).getD 0xFF
    pos := g.frame.pos
    passesLeft := (g.frame.base.map fun b => BitVec.ofNat 8 b.passesLeft).getD 0xFF
    skip := g.skip
    timing := g.frame.timing
    generation := s.store.directory[g.frame.pattern].generation }

/-- A snapshot's frame as the run holds it (R122 step 5). -/
def SnapFrame.runFrame (f : SnapFrame) : RunFrame :=
  { pattern := f.pattern
    pos := f.pos
    timing := f.timing
    base :=
      if f.kind = .base then
        (SlotIndex.ofByte? f.slot).map fun i => ⟨i, f.passesLeft.toNat⟩
      else none }

/-- A snapshot's frame as the context stack holds it, with its skip-on-return. -/
def SnapFrame.saved (f : SnapFrame) : SavedFrame := ⟨f.runFrame, f.skip⟩

/-- A snapshot written. -/
def State.putSnapshot (s : State) (n : SnapshotId) (x : Snapshot) : State :=
  s.withEngine { s.engine with snapshots := s.engine.snapshots.set n.val x }

/-! ## SUSPEND (R117 to R119) -/

/-- What a suspend saves, "while the frames still stand" (R118). -/
def State.savedRun (s : State) : Snapshot :=
  { state := .suspended
    options := s.engine.options
    version := s.rotation.version
    stepCounter := s.engine.stepCounter
    failingSteps := s.checker.failingSteps
    frames := s.engine.frames.map s.snapFrame }

/-- SUSPEND's reply (R119): snapshot number, frame count, saved version, counter and failing-step
count, and whether the run end carried out a waiting swap. -/
def suspendResults (n : SnapshotId) (x : Snapshot) (swapped : Bool) : List Byte :=
  byte n.val ++ byte x.frames.length ++ bytesC x.version ++ bytesC x.stepCounter
    ++ bytes2 x.failingSteps ++ bytesB swapped

/-- SUSPEND (snapshot). -/
def suspend (snapshot : Byte) (s : State) : Served :=
  unlessLocked s <|
    if !s.engine.rotationLive then refuse .state s
    else match SnapshotId.ofByte? snapshot with
      | none => refuse .range s
      | some n =>
        if s.engine.snapshots[n].state ≠ .empty then refuse .existsAlready s
        else accept (runEnd .suspended (s.putSnapshot n s.savedRun))
          (suspendResults n s.savedRun s.rotation.swapWaiting)

/-- SUSPEND's payload. -/
def serveSuspend : List Byte → State → Served
  | [snapshot], s => suspend snapshot s
  | _, s => refuse .badLength s

/-- SUSPEND. -/
def execSuspend (r : Req) (s : State) : Host.Outcome State Fault Refusal :=
  .next (serveRequest (r.frame Kind.suspend) serveSuspend s)

/-! ## RESUME (R120 to R122) -/

/-- A frame whose pattern is UNDEFINED or has another generation than the frame records (R120 check
6). -/
def State.staleFrame (s : State) (f : SnapFrame) : Bool :=
  !(s.store.content f.pattern).isDefined || s.store.directory[f.pattern].generation != f.generation

/-- The conditions of a BASE frame (R121). -/
def State.baseConsistent (s : State) (f : SnapFrame) : Bool :=
  match SlotIndex.ofByte? f.slot with
  | none => false
  | some i =>
    let r := s.rotation.active.slots[i]
    let n := (s.store.content f.pattern).length
    i.val < s.rotation.active.count && f.pattern = r.pattern
      && 1 ≤ f.passesLeft.toNat && f.passesLeft.toNat ≤ r.dwell
      && f.pos.index < n && suited r.direction n f.pos

/-- The conditions of a SPLICE frame (R121). -/
def State.spliceConsistent (s : State) (f : SnapFrame) : Bool :=
  f.pos.index < (s.store.content f.pattern).length && f.pos.phase = .ascending

/-- A frame is consistent; the last frame's skip-on-return is not read (R121). -/
def State.consistent (s : State) (f : SnapFrame) (last : Bool) : Bool :=
  (match f.kind with
   | .base => s.baseConsistent f
   | .splice => s.spliceConsistent f)
    && (last || f.skip ≤ 255)

/-- The index, from `k` on, of the lowest frame that is not consistent. -/
def State.inconsistentAt (s : State) (k : Nat) : List SnapFrame → Option Nat
  | [] => none
  | f :: rest =>
    if s.consistent f rest.isEmpty then s.inconsistentAt (k + 1) rest else some k

/-- The index, from `k` on, and the frame of the lowest stale frame. -/
def State.staleAt (s : State) (k : Nat) : List SnapFrame → Option (Nat × SnapFrame)
  | [] => none
  | f :: rest => if s.staleFrame f then some (k, f) else s.staleAt (k + 1) rest

/-- What a refusal at check 6 carries: frame index, pattern id, entry state, generation (R120). -/
def State.staleResults (s : State) (k : Nat) (f : SnapFrame) : List Byte :=
  byte k ++ byte f.pattern.val ++ byte (s.store.content f.pattern).code
    ++ bytesC s.store.directory[f.pattern].generation

/-- The refusals of checks 5 to 7, with their results (R120). -/
def State.resumeRefusal (s : State) (x : Snapshot) : Option Reply :=
  if x.version ≠ s.rotation.version then some ⟨.stale, []⟩
  else match s.staleAt 0 x.frames with
    | some (k, f) => some ⟨.stale, s.staleResults k f⟩
    | none => (s.inconsistentAt 0 x.frames).map fun k => ⟨.invalid, byte k⟩

/-- The checker's part of a resume (R122 step 3). -/
def Checker.resume (c : Checker) (failing : Nat) : Checker :=
  { c with failingSteps := failing, firstFailNotified := 0 < failing }

/-- The engine's part of a resume: options, kind, counter, frames (R122 steps 1 to 5). -/
def Engine.resume (e : Engine) (x : Snapshot) : Engine :=
  { e.startRun .rotation with
    options := x.options
    stepCounter := x.stepCounter
    pendingSplice := none
    live := (x.frames.map SnapFrame.runFrame).getLast?
    stack := (x.frames.map SnapFrame.saved).dropLast.reverse }

/-- The resume, "as one event" (R122). -/
def resumeRun (n : SnapshotId) (x : Snapshot) (s : State) : State :=
  stepStart
    (({ s with
        engine := s.engine.resume x
        checker := s.checker.resume x.failingSteps } : State).putSnapshot n Snapshot.none)

/-- RESUME's reply: stack depth and step counter restored, and the engine state (R122). -/
def resumeResults (x : Snapshot) (t : State) : List Byte :=
  byte (x.frames.length - 1) ++ bytesC x.stepCounter ++ [t.engine.mode.code]

/-- RESUME (snapshot). -/
def resume (snapshot : Byte) (s : State) : Served :=
  unlessLocked s <|
    if s.engine.mode ≠ .idle then refuse .state s
    else match SnapshotId.ofByte? snapshot with
      | none => refuse .range s
      | some n =>
        if s.engine.snapshots[n].state = .empty then refuse .empty s
        else match s.resumeRefusal s.engine.snapshots[n] with
          | some r => refuseWith r.status r.results s
          | none =>
            let t := resumeRun n s.engine.snapshots[n] s
            accept t (resumeResults s.engine.snapshots[n] t)

/-- RESUME's payload. -/
def serveResume : List Byte → State → Served
  | [snapshot], s => resume snapshot s
  | _, s => refuse .badLength s

/-- RESUME. -/
def execResume (r : Req) (s : State) : Host.Outcome State Fault Refusal :=
  .next (serveRequest (r.frame Kind.resume) serveResume s)

/-! ## READ_SNAPSHOT (R124) -/

/-- READ_SNAPSHOT (snapshot): the state, then the LOAD_SNAPSHOT layout from the mode onward (R178). -/
def readSnapshot (snapshot : Byte) (s : State) : Served :=
  match SnapshotId.ofByte? snapshot with
  | none => refuse .range s
  | some n => accept s ([s.engine.snapshots[n].state.code] ++ s.engine.snapshots[n].bytes)

/-- READ_SNAPSHOT's payload. -/
def serveReadSnapshot : List Byte → State → Served
  | [snapshot], s => readSnapshot snapshot s
  | _, s => refuse .badLength s

/-- READ_SNAPSHOT. -/
def execReadSnapshot (r : Req) (s : State) : Host.Outcome State Fault Refusal :=
  .next (serveRequest (r.frame Kind.readSnapshot) serveReadSnapshot s)

/-! ## LOAD_SNAPSHOT (R124) -/

/-- The header of a record: mode, stop-on-fail, wait timeout, clear-at-start, version, step counter and
failing-step count, 15 bytes, with its frames; none where the mode names no value. -/
def Snapshot.ofHeader? (frames : List SnapFrame) : List Byte → Option Snapshot
  | [mode, stopOnFail, w1, w0, clear, v3, v2, v1, v0, c3, c2, c1, c0, f1, f0] =>
    (RunMode.ofByte? mode).map fun m =>
      { state := .loaded
        options := ⟨m, stopOnFail.toNat, num2 w1 w0, yes clear⟩
        version := count4 v3 v2 v1 v0
        stepCounter := count4 c3 c2 c1 c0
        failingSteps := num2 f1 f0
        frames := frames }
  | _ => .none

/-- The record's checks of form (R124 check 3): none where it is refused RANGE. -/
def Snapshot.ofRecord? (header : List Byte) (frames : List (List Byte)) : Option Snapshot :=
  match snapFramesOf? frames with
  | .none => .none
  | some fs => if snapFormOk fs then Snapshot.ofHeader? fs header else .none

/-- LOAD_SNAPSHOT (snapshot, record). -/
def loadSnapshot (snapshot : Byte) (header : List Byte) (frames : List (List Byte)) (s : State) :
    Served :=
  unlessLocked s <|
    match SnapshotId.ofByte? snapshot with
    | none => refuse .range s
    | some n =>
      match Snapshot.ofRecord? header frames with
      | none => refuse .range s
      | some x =>
        if s.engine.snapshots[n].state ≠ .empty then refuse .existsAlready s
        else accept (s.putSnapshot n x) []

/-- LOAD_SNAPSHOT's payload: 17 + 14 × frame count bytes, the count read from byte 16 (R178). -/
def serveLoadSnapshot (p : List Byte) (s : State) : Served :=
  let count := (p.getD 16 0).toNat
  if 17 ≤ p.length && p.length = 17 + 14 * count then
    loadSnapshot (p.getD 0 0) ((p.drop 1).take 15) (pieces 14 count (p.drop 17)) s
  else refuse .badLength s

/-- LOAD_SNAPSHOT. -/
def execLoadSnapshot (r : Req) (s : State) : Host.Outcome State Fault Refusal :=
  .next (serveRequest (r.frame Kind.loadSnapshot) serveLoadSnapshot s)

/-! ## DISCARD_SNAPSHOT (R125) -/

/-- DISCARD_SNAPSHOT (snapshot): the reply carries the state held before. -/
def discardSnapshot (snapshot : Byte) (s : State) : Served :=
  unlessLocked s <|
    match SnapshotId.ofByte? snapshot with
    | none => refuse .range s
    | some n => accept (s.putSnapshot n Snapshot.none) [s.engine.snapshots[n].state.code]

/-- DISCARD_SNAPSHOT's payload. -/
def serveDiscardSnapshot : List Byte → State → Served
  | [snapshot], s => discardSnapshot snapshot s
  | _, s => refuse .badLength s

/-- DISCARD_SNAPSHOT. -/
def execDiscardSnapshot (r : Req) (s : State) : Host.Outcome State Fault Refusal :=
  .next (serveRequest (r.frame Kind.discardSnapshot) serveDiscardSnapshot s)

end Sys2Proof.Machine
end

