-- ==== Sys2Proof/Machine/Checker.lean ====
section
/-! DEFINITION. The checker (08): the strobe's comparison, counts, fail log, quarantine and lockout,
the event STROBE, and the requests SET_CHECK, CLEAR_LANE, READ_FAILS and READ_COUNTS. -/

namespace Sys2Proof.Machine

/-! ## Counting (R129, R130) -/

/-- The mismatch counts after a strobe, saturating at 255 (R129). -/
def Checker.countMismatches (c : Checker) (mismatches : LaneSet) : Lanes Nat :=
  Vector.ofFn fun n =>
    if hasLane mismatches n then min (c.mismatchCounts[n] + 1) Config.maxMismatch
    else c.mismatchCounts[n]

/-- The fault counts after a strobe: increased on a faulty driven lane, saturating at 15, 0 on another
driven lane, unchanged on a lane not driven (R130). -/
def Checker.countFaults (c : Checker) (driven : Lane → Bool) (faults : LaneSet) : Lanes Nat :=
  Vector.ofFn fun n =>
    if hasLane faults n then min (c.faultCounts[n] + 1) Config.maxFault
    else if driven n then 0
    else c.faultCounts[n]

/-- Both counts after a strobe. -/
def countStrobe (mismatches faults : LaneSet) (s : State) : State :=
  s.withChecker
    { s.checker with
      mismatchCounts := s.checker.countMismatches mismatches
      faultCounts := s.checker.countFaults s.drives faults }

/-! ## The fail log (R133, R134) -/

/-- A record handed to the log: appended, or discarded with LOG_OVERFLOW set (R134). -/
def Checker.log (c : Checker) (r : FailRec) : Checker :=
  if c.failLog.length < Config.logLimit then { c with failLog := c.failLog ++ [r] }
  else { c with logOverflow := true }

/-- A record made at a strobe (R133). -/
def State.failRec (s : State) (detail : FailDetail) (observed : LaneSet) : FailRec :=
  ⟨detail, s.engine.stepCounter, s.engine.depth, s.engine.place, observed⟩

/-! ## The failing step (R131, R132) -/

/-- A request for FAIL_LIMIT: taken if nothing is pending (R86). -/
def Engine.askFailLimit (e : Engine) : Engine :=
  if e.pendingStop = .none then { e with pendingStop := .failLimit } else e

/-- A request for QUARANTINE_STOP: taken whatever is pending (R86). -/
def Engine.askQuarantineStop (e : Engine) : Engine := { e with pendingStop := .quarantineStop }

/-- The failing-step count increases, saturating, and the record is handed to the log (R131 steps 1,
2). -/
def logFailingStep (r : FailRec) (s : State) : State :=
  s.withChecker
    (({ s.checker with
        failingSteps := min (s.checker.failingSteps + 1) Config.maxFailing } : Checker).log r)

/-- The run's first STEP_FAIL notice (R131 step 3). -/
def notifyFirstFail (r : FailRec) (s : State) : State :=
  if s.checker.firstFailNotified then s
  else (s.withChecker { s.checker with firstFailNotified := true }).notice .stepFail r.bytes

/-- The stop-on-fail test (R132). -/
def testStopOnFail (s : State) : State :=
  if s.engine.options.stopOnFail ≠ 0 && s.engine.options.stopOnFail ≤ s.checker.failingSteps then
    s.withEngine s.engine.askFailLimit
  else s

/-- A failing step (R131). -/
def failingStep (mismatches faults observed : LaneSet) (s : State) : State :=
  let r := s.failRec (.stepFail mismatches faults) observed
  testStopOnFail (notifyFirstFail r (logFailingStep r s))

/-! ## Quarantine (R135 to R137) -/

/-- The quarantine action, with the run's flag (R135 step 4, R136). -/
def Engine.quarantined (e : Engine) (action : QuarantineAction) : Engine :=
  let f : Engine := { e with quarantineInRun := true }
  match action with
  | .goOn => f
  | .stop => f.askQuarantineStop

/-- What the QUARANTINE notice carries (R135 step 3, R178). -/
def State.quarantinePayload (s : State) (n : Lane) : List Byte :=
  byte n.val ++ bytesL s.checker.quarantine ++ bytesC s.engine.stepCounter ++ byte s.engine.depth

/-- A lane is added to the quarantine set, with its record, notice, flag and action (R135 steps 1 to
5). -/
def quarantineLane (observed : LaneSet) (s : State) (n : Lane) : State :=
  let c : Checker := { s.checker with quarantine := s.checker.quarantine ||| oneLane n }
  let t := s.withChecker (c.log (s.failRec (.quarantine n) observed))
  let u := t.notice .quarantine (t.quarantinePayload n)
  u.withEngine (u.engine.quarantined u.checker.quarantineAction)

/-- The lanes that qualify: a fault at the strobe, and the count after it at the threshold or above
(R135). -/
def State.qualifying (s : State) (faults : LaneSet) : List Lane :=
  (lanesOf faults).filter fun n => s.checker.faultThreshold ≤ s.checker.faultCounts[n]

/-- The quarantined count has reached the limit (R137). -/
def Checker.limitReached (c : Checker) : Bool := c.quarantineLimit ≤ c.quarantinedCount

/-- Every qualifying lane is quarantined in ascending order; if an addition brought the count to the
limit, the part locks out once all are made (R135, R137; log 19). -/
def quarantineAll (observed : LaneSet) (lanes : List Lane) (s : State) : State :=
  let t := lanes.foldl (quarantineLane observed) s
  if !lanes.isEmpty && t.checker.limitReached then enterLockout t else t

/-! ## The strobe (R86, R129 to R138) -/

/-- The checker's work at a strobe, given what it found at that instant. -/
def judge (mismatches faults observed : LaneSet) (s : State) : State :=
  let t := countStrobe mismatches faults s
  let u := if mismatches ||| faults = 0 then t else failingStep mismatches faults observed t
  quarantineAll observed (u.qualifying faults) u

/-- A strobe: "All 24 lanes are judged against the values of that one instant"; `r` is the step's kept
record, none in a survey (R138). -/
def checkStrobe (a : Assembly) (r : Option VectorRec) (s : State) : State :=
  judge (s.mismatchSet a r) (s.faultSet a) (s.senses a) s

/-- The pacer runs a step of a run of this kind and comes to its strobe (R47, R48; log 3). -/
def State.strobes (s : State) (kind : RunKind) : Bool :=
  s.engine.mode = .running && s.engine.runKind = kind
    && s.timing.pacer.any PacerStep.strobeDue

/-- Count S begins (R47). -/
def reachStrobe (s : State) : State := s.withTiming s.timing.toStrobe

/-- STROBE; where no rotation step comes to its strobe, the event does not occur (log 2). -/
def execStrobe (a : Assembly) (s : State) : Host.Outcome State Fault Refusal :=
  .next (if s.strobes .rotation then checkStrobe a s.engine.stepRecord (reachStrobe s) else s)

/-! ## SET_CHECK (R139) -/

/-- SET_CHECK's reply: the three settings and the quarantined count. -/
def Checker.settings (c : Checker) : List Byte :=
  byte c.faultThreshold ++ byte c.quarantineLimit ++ [c.quarantineAction.code]

/-- SET_CHECK (fault threshold, quarantine limit, quarantine action). -/
def setCheck (threshold limit action : Byte) (s : State) : Served :=
  unlessLocked s <|
    if s.engine.mode.isLive then refuse .state s
    else match QuarantineAction.ofByte? action with
      | none => refuse .range s
      | some a =>
        if threshold.toNat < 1 || 15 < threshold.toNat || limit.toNat < 1 || 24 < limit.toNat
            || limit.toNat ≤ s.checker.quarantinedCount then refuse .range s
        else
          let c : Checker :=
            { s.checker with
              faultThreshold := threshold.toNat
              quarantineLimit := limit.toNat
              quarantineAction := a }
          accept (s.withChecker c) (c.settings ++ byte c.quarantinedCount)

/-- SET_CHECK's payload. -/
def serveSetCheck : List Byte → State → Served
  | [threshold, limit, action], s => setCheck threshold limit action s
  | _, s => refuse .badLength s

/-- SET_CHECK. -/
def execSetCheck (r : Req) (s : State) : Host.Outcome State Fault Refusal :=
  .next (serveRequest (r.frame Kind.setCheck) serveSetCheck s)

/-! ## CLEAR_LANE (R140) -/

/-- The lanes of a set leave quarantine, and their fault counts become 0 (R140). -/
def Checker.clearLanes (c : Checker) (lanes : LaneSet) : Checker :=
  { c with
    quarantine := c.quarantine &&& ~~~lanes
    faultCounts := Vector.ofFn fun n => if hasLane lanes n then 0 else c.faultCounts[n] }

/-- CLEAR_LANE (lane set). -/
def clearLane (lanes : LaneSet) (s : State) : Served :=
  unlessLocked s <|
    if s.engine.mode.isLive then refuse .state s
    else
      let c := s.checker.clearLanes lanes
      accept (s.withChecker c) (bytesL c.quarantine)

/-- CLEAR_LANE's payload. -/
def serveClearLane : List Byte → State → Served
  | [l2, l1, l0], s => clearLane (laneSet3 l2 l1 l0) s
  | _, s => refuse .badLength s

/-- CLEAR_LANE. -/
def execClearLane (r : Req) (s : State) : Host.Outcome State Fault Refusal :=
  .next (serveRequest (r.frame Kind.clearLane) serveClearLane s)

/-! ## READ_FAILS (R141) -/

/-- The log less its oldest records; LOG_OVERFLOW is cleared if it is now empty (R141). -/
def Checker.dropFails (c : Checker) (max : Nat) : Checker :=
  { c with
    failLog := c.failLog.drop max
    logOverflow := c.logOverflow && !(c.failLog.drop max).isEmpty }

/-- READ_FAILS' reply: the records as a counted list, the number left, and the flag as it stood. -/
def Checker.failResults (c : Checker) (max : Nat) : List Byte :=
  byte (c.failLog.take max).length ++ (c.failLog.take max).flatMap FailRec.bytes
    ++ byte (c.failLog.drop max).length ++ bytesB c.logOverflow

/-- READ_FAILS (max). -/
def readFails (max : Byte) (s : State) : Served :=
  if max.toNat < 1 || 8 < max.toNat then refuse .range s
  else accept (s.withChecker (s.checker.dropFails max.toNat)) (s.checker.failResults max.toNat)

/-- READ_FAILS' payload. -/
def serveReadFails : List Byte → State → Served
  | [max], s => readFails max s
  | _, s => refuse .badLength s

/-- READ_FAILS. -/
def execReadFails (r : Req) (s : State) : Host.Outcome State Fault Refusal :=
  .next (serveRequest (r.frame Kind.readFails) serveReadFails s)

/-! ## READ_COUNTS (R142) -/

/-- READ_COUNTS' results, in the order of R142. -/
def Checker.countResults (c : Checker) : List Byte :=
  (List.finRange 24).flatMap (fun n => byte c.mismatchCounts[n])
    ++ (List.finRange 24).flatMap (fun n => byte c.faultCounts[n]) ++ bytes2 c.failingSteps
    ++ bytesL c.quarantine ++ byte c.quarantinedCount ++ c.settings

/-- READ_COUNTS: the mismatch counts become 0 once their values are in the reply. -/
def readCounts (s : State) : Served :=
  accept (s.withChecker { s.checker with mismatchCounts := Vector.replicate 24 0 })
    s.checker.countResults

/-- READ_COUNTS' payload. -/
def serveReadCounts : List Byte → State → Served
  | [], s => readCounts s
  | _, s => refuse .badLength s

/-- READ_COUNTS. -/
def execReadCounts (r : Req) (s : State) : Host.Outcome State Fault Refusal :=
  .next (serveRequest (r.frame Kind.readCounts) serveReadCounts s)

end Sys2Proof.Machine
end

