-- ==== Sys2Proof/Machine/Survey.lean ====
section
/-! DEFINITION. The continuity survey (09): its start, step, strobe and step end, the comparison, and
the requests SURVEY, READ_NET_MAP, LOAD_REFERENCE, ADOPT_REFERENCE and CLEAR_REFERENCE. -/

namespace Sys2Proof.Machine

/-! ## The survey start (R148, R149) -/

/-- The participants: the lanes asked for whose bank is enabled and which are not quarantined (R148
check 4). -/
def State.participants (s : State) (lanes : LaneSet) : LaneSet :=
  lanesWhere fun n =>
    hasLane lanes n && (s.output.cfg n).enable && !hasLane s.checker.quarantine n

/-- A survey step start: the participant at the survey position is driven to pin level 1, every other
lane is Z, and the pacer starts with the survey timing set (R150). -/
def surveyStepStart (n : Lane) (s : State) : State :=
  { s with
    output := s.output.surveyDrive n
    timing := s.timing.startPacer s.survey.timingSet
    survey := { s.survey with position := some n } }

/-- The survey unit's part of a survey start: participants, timing set, an empty net map, the
map-complete flag clear (R149 step 2). -/
def Survey.begin (v : Survey) (participants : LaneSet) (set : TimingId) : Survey :=
  { v with
    participants := participants
    timingSet := set
    netMap := Vector.replicate 24 none
    mapComplete := false }

/-- The checker's part: the first-fail flag is cleared, and, where clear-at-start is on, the
failing-step count and the log with them (R149 steps 3, 4). -/
def Checker.startSurvey (c : Checker) (clear : Bool) : Checker :=
  if clear then { c.clearLog with failingSteps := 0, firstFailNotified := false }
  else { c with firstFailNotified := false }

/-- The engine's part (R149 steps 1, 3, 4, 6). -/
def Engine.startSurvey (e : Engine) : Engine :=
  { e.startRun .survey with
    stepCounter := if e.options.clearAtStart then 0 else e.stepCounter }

/-- A survey start for a lowest participant, with its first step start (R149). -/
def startSurvey (participants : LaneSet) (set : TimingId) (lowest : Lane) (s : State) : State :=
  surveyStepStart lowest
    { s with
      engine := s.engine.startSurvey
      survey := s.survey.begin participants set
      checker := s.checker.startSurvey s.engine.options.clearAtStart }

/-- SURVEY (timing set, lane set). -/
def survey (set : Byte) (lanes : LaneSet) (s : State) : Served :=
  unlessLocked s <|
    if s.engine.mode ≠ .idle then refuse .state s
    else match TimingId.ofByte? set with
      | none => refuse .range s
      | some t =>
        match lanesOf (s.participants lanes) with
        | first :: second :: rest =>
          accept (startSurvey (s.participants lanes) t first s)
            (bytesL (s.participants lanes) ++ byte (first :: second :: rest).length)
        | _ => refuse .range s

/-- SURVEY's payload. -/
def serveSurvey : List Byte → State → Served
  | [set, l2, l1, l0], s => survey set (laneSet3 l2 l1 l0) s
  | _, s => refuse .badLength s

/-- SURVEY. -/
def execSurvey (r : Req) (s : State) : Host.Outcome State Fault Refusal :=
  .next (serveRequest (r.frame Kind.survey) serveSurvey s)

/-! ## SURVEY_STROBE (R151) -/

/-- The net map entry of the driven participant: the other participants whose sensed pin level is 1,
the step counter, and the logical senses (R151). -/
def State.netEntry (s : State) (a : Assembly) (driven : Lane) : NetEntry :=
  { observedSet :=
      lanesWhere fun n => hasLane s.survey.participants n && n != driven && s.sensed a n
    stepCounter := s.engine.stepCounter
    observed := s.senses a }

/-- A net map entry written. -/
def Survey.putEntry (v : Survey) (n : Lane) (e : NetEntry) : Survey :=
  { v with netMap := v.netMap.set n.val (some e) }

/-- The survey unit's part of the strobe (R151). -/
def writeEntry (a : Assembly) (s : State) : State :=
  match s.survey.position with
  | some n => s.withSurvey (s.survey.putEntry n (s.netEntry a n))
  | none => s

/-- The strobe of a survey step. The entry and the judgement read the same instant: the entry, written
first, changes nothing that the checker reads (R151). -/
def surveyStrobe (a : Assembly) (s : State) : State :=
  checkStrobe a none (writeEntry a s)

/-- SURVEY_STROBE; where no survey step comes to its strobe, the event does not occur (log 2). -/
def execSurveyStrobe (a : Assembly) (s : State) : Host.Outcome State Fault Refusal :=
  .next (if s.strobes .survey then surveyStrobe a (reachStrobe s) else s)

/-! ## The comparison (R154) -/

/-- A compared lane: a participant whose reference entry is present (R154). -/
def Survey.compared (v : Survey) (n : Lane) : Bool :=
  hasLane v.participants n && v.reference[n].isSome

/-- The record of a pair of compared lanes: OPEN where the reference expects `j` and the net map lacks
it, SHORT where the net map has it and the reference does not expect it (R154). -/
def pairRecord (i j : Lane) (expected : LaneSet) (e : NetEntry) : Option FailRec :=
  if hasLane expected j && !hasLane e.observedSet j then
    some ⟨.openNet i j, e.stepCounter, 0, none, e.observed⟩
  else if hasLane e.observedSet j && !hasLane expected j then
    some ⟨.shortNet i j, e.stepCounter, 0, none, e.observed⟩
  else none

/-- The records of one compared lane, over the other compared lanes in ascending order. -/
def Survey.laneRecords (v : Survey) (i : Lane) : List FailRec :=
  match v.reference[i], v.netMap[i] with
  | some expected, some e =>
    if v.compared i then
      (List.finRange 24).filterMap fun j =>
        if j != i && v.compared j then pairRecord i j expected e else none
    else []
  | _, _ => []

/-- The comparison's records, in the order it makes them (R154). -/
def Survey.comparison (v : Survey) : List FailRec :=
  if v.referencePresent then (List.finRange 24).flatMap v.laneRecords else []

/-- An OPEN or SHORT record handed to the checker: to the log, with the continuity-fail flag (R134). -/
def handRecord (s : State) (r : FailRec) : State :=
  { s with
    checker := s.checker.log r
    engine := { s.engine with continuityFail := true } }

/-- The comparison made. -/
def compareMaps (s : State) : State := s.survey.comparison.foldl handRecord s

/-! ## SURVEY_STEP_END (R152) -/

/-- The next participant above a lane. -/
def Survey.nextAbove (v : Survey) (n : Lane) : Option Lane :=
  (lanesOf v.participants).find? fun m => n < m

/-- The end of a survey's last step: the comparison, the map-complete flag, the run end (R152 step
3). -/
def surveyComplete (s : State) : State :=
  let t := compareMaps s
  runEnd .complete (t.withSurvey { t.survey with mapComplete := true })

/-- The end of a survey step (R152). -/
def surveyStepEnd (s : State) : State :=
  let t := countStep s
  match t.engine.pendingStop.cause? with
  | some c => runEnd c t
  | none =>
    match t.survey.position.bind t.survey.nextAbove with
    | some n => surveyStepStart n t
    | none => surveyComplete t

/-- SURVEY_STEP_END; where no survey step completes its last count, the event does not occur (log 2). -/
def execSurveyStepEnd (s : State) : Host.Outcome State Fault Refusal :=
  .next (if s.stepEnds .survey then surveyStepEnd s else s)

/-! ## READ_NET_MAP (R156, R178) -/

/-- The lanes whose net map entry is present. -/
def Survey.present (v : Survey) : LaneSet := lanesWhere fun n => v.netMap[n].isSome

/-- The lanes whose reference entry is present. -/
def Survey.referenced (v : Survey) : LaneSet := lanesWhere fun n => v.reference[n].isSome

/-- The rank of a participant, counted from 0 in ascending lane order. -/
def Survey.rank (v : Survey) (n : Lane) : Nat :=
  ((lanesOf v.participants).filter (· < n)).length

/-- The step counter at the survey's first strobe: the lowest present entry's counter less its
participant's rank; 0xFFFFFFFF where no entry is present (R178; log 18). -/
def Survey.firstCounter (v : Survey) : Count32 :=
  match (List.finRange 24).find? (fun n => v.netMap[n].isSome) with
  | some n => ((v.netMap[n].map NetEntry.stepCounter).getD 0) - BitVec.ofNat 32 (v.rank n)
  | none => 0xFFFFFFFF

/-- A lane's expected set as READ_NET_MAP sends it: R178 gives an absent observed set as 0 and says
nothing of an absent expected set, which is sent as an absent field of R177 (log 20). -/
def expectedBytes (e : Option LaneSet) : List Byte :=
  match e with
  | some l => bytesL l
  | none => absent 3

/-- READ_NET_MAP's results after the status, 160 bytes (R178). -/
def Survey.mapRecord (v : Survey) : List Byte :=
  bytesL v.participants ++ laneByte v.position ++ bytesB v.mapComplete ++ bytesL v.present
    ++ (List.finRange 24).flatMap
      (fun n => bytesL ((v.netMap[n].map NetEntry.observedSet).getD 0))
    ++ bytesC v.firstCounter ++ bytesB v.referencePresent ++ bytesL v.referenced
    ++ (List.finRange 24).flatMap (fun n => expectedBytes v.reference[n])

/-- READ_NET_MAP's payload; reading changes no state. -/
def serveReadNetMap : List Byte → State → Served
  | [], s => accept s s.survey.mapRecord
  | _, s => refuse .badLength s

/-- READ_NET_MAP. -/
def execReadNetMap (r : Req) (s : State) : Host.Outcome State Fault Refusal :=
  .next (serveRequest (r.frame Kind.readNetMap) serveReadNetMap s)

/-! ## LOAD_REFERENCE (R157) -/

/-- The reference map written whole, its flag set. -/
def Survey.putReference (v : Survey) (m : Lanes (Option LaneSet)) : Survey :=
  { v with reference := m, referencePresent := true }

/-- The number of present reference entries. -/
def Survey.referenceCount (v : Survey) : Nat := laneCount v.referenced

/-- LOAD_REFERENCE (24 entries), the entries as their bytes. -/
def loadReference (entries : List (List Byte)) (s : State) : Served :=
  unlessLocked s <|
    if s.engine.surveyLive then refuse .state s
    else match refEntriesOf? entries with
      | none => refuse .range s
      | some es =>
        let v := s.survey.putReference (Vector.ofFn fun n => es.getD n.val none)
        accept (s.withSurvey v) (byte v.referenceCount)

/-- LOAD_REFERENCE's payload, 96 bytes. -/
def serveLoadReference (p : List Byte) (s : State) : Served :=
  if p.length = 96 then loadReference (pieces 4 24 p) s else refuse .badLength s

/-- LOAD_REFERENCE. -/
def execLoadReference (r : Req) (s : State) : Host.Outcome State Fault Refusal :=
  .next (serveRequest (r.frame Kind.loadReference) serveLoadReference s)

/-! ## ADOPT_REFERENCE and CLEAR_REFERENCE (R158) -/

/-- The net map as a reference map: each present entry's observed set expected. -/
def Survey.netAsReference (v : Survey) : Lanes (Option LaneSet) :=
  Vector.ofFn fun n => v.netMap[n].map NetEntry.observedSet

/-- ADOPT_REFERENCE. -/
def adoptReference (s : State) : Served :=
  unlessLocked s <|
    if s.engine.surveyLive then refuse .state s
    else if !s.survey.mapComplete then refuse .empty s
    else
      let v := s.survey.putReference s.survey.netAsReference
      accept (s.withSurvey v) (byte v.referenceCount)

/-- ADOPT_REFERENCE's payload. -/
def serveAdoptReference : List Byte → State → Served
  | [], s => adoptReference s
  | _, s => refuse .badLength s

/-- ADOPT_REFERENCE. -/
def execAdoptReference (r : Req) (s : State) : Host.Outcome State Fault Refusal :=
  .next (serveRequest (r.frame Kind.adoptReference) serveAdoptReference s)

/-- CLEAR_REFERENCE. -/
def clearReference (s : State) : Served :=
  unlessLocked s <|
    if s.engine.surveyLive then refuse .state s
    else accept
      (s.withSurvey
        { s.survey with reference := Vector.replicate 24 none, referencePresent := false }) []

/-- CLEAR_REFERENCE's payload. -/
def serveClearReference : List Byte → State → Served
  | [], s => clearReference s
  | _, s => refuse .badLength s

/-- CLEAR_REFERENCE. -/
def execClearReference (r : Req) (s : State) : Host.Outcome State Fault Refusal :=
  .next (serveRequest (r.frame Kind.clearReference) serveClearReference s)

end Sys2Proof.Machine
end

