-- ==== Sys2Proof/Machine/Trigger.lean ====
section
/-! DEFINITION. The trigger and capture unit (10): edges, the seven trigger rows, captures, and the
requests SET_TRIGGER, CAPTURE and READ_CAPTURE. A trigger row names the input whose level changes;
the change is a toggle of the last level, so the row is the one that the input's configuration makes
of that change, and any other row does not occur (log 13). -/

namespace Sys2Proof.Machine

/-! ## Inputs and edges (R161) -/

/-- An input's configuration and last level. -/
def Trigger.cfg (t : Trigger) : TrigInput → TrigCfg
  | .trgA => t.trgA
  | .trgB => t.trgB

/-- An input's configuration replaced. -/
def Trigger.putCfg (t : Trigger) (input : TrigInput) (c : TrigCfg) : Trigger :=
  match input with
  | .trgA => { t with trgA := c }
  | .trgB => { t with trgB := c }

/-- The configured edge admits a change to a level: a rise to 1, a fall to 0 (R161). -/
def TrigEdge.admits : TrigEdge → Bool → Bool
  | .rising, level => level
  | .falling, level => !level
  | .both, _ => true

/-- What the input's next change of level delivers: its action if the change is an edge, NONE
otherwise (R161). -/
def TrigCfg.delivers (t : TrigCfg) : TrigAction :=
  if t.edge.admits (!t.lastLevel) then t.action else .none

/-- The last level takes the new level. -/
def TrigCfg.change (t : TrigCfg) : TrigCfg := { t with lastLevel := !t.lastLevel }

/-- What a change of an input's level delivers now; during a reset or start-up changes "are not taken
as edges", and no row of them occurs (R161). -/
def State.delivery (s : State) (input : TrigInput) : Option TrigAction :=
  if s.operating then some (s.trigger.cfg input).delivers else none

/-- The change of level taken: "The last level is updated whatever the engine state and whatever the
action" (R161). -/
def State.levelChanged (s : State) (input : TrigInput) : State :=
  s.withTrigger (s.trigger.putCfg input (s.trigger.cfg input).change)

/-- A trigger row for an action without a preset: the change is taken, and the action carried out. -/
def triggerRow (input : TrigInput) (action : TrigAction) (act : State → State) (s : State) :
    State :=
  if s.delivery input = some action then act (s.levelChanged input) else s

/-- TRIGGER_LEVEL_CHANGE: a change that is no edge, or whose action is NONE (R161). -/
def execTriggerLevelChange (input : TrigInput) (s : State) : Host.Outcome State Fault Refusal :=
  .next (triggerRow input .none id s)

/-! ## Delivery (R163) -/

/-- A START action: a run start in ARMED, ignored otherwise (R78). -/
def startAction (s : State) : State := if s.engine.mode = .armed then startRun s else s

/-- START_TRIGGER. -/
def execStartTrigger (input : TrigInput) (s : State) : Host.Outcome State Fault Refusal :=
  .next (triggerRow input .start startAction s)

/-- A STOP action: as by DISARM in ARMED, a run end in the live states, ignored otherwise (R93). -/
def stopAction (s : State) : State :=
  if s.engine.mode = .armed || s.engine.mode.isLive then stopped .triggerStop s else s

/-- STOP_TRIGGER. -/
def execStopTrigger (input : TrigInput) (s : State) : Host.Outcome State Fault Refusal :=
  .next (triggerRow input .stop stopAction s)

/-- A RELEASE action (R88). -/
def releaseAction (s : State) : State := if s.engine.takesRelease then released s else s

/-- RELEASE_TRIGGER. -/
def execReleaseTrigger (input : TrigInput) (s : State) : Host.Outcome State Fault Refusal :=
  .next (triggerRow input .release releaseAction s)

/-- An ADVANCE action (R83). -/
def advanceAction (s : State) : State := if s.engine.rotationLive then latchAdvance s else s

/-- ADVANCE_TRIGGER. -/
def execAdvanceTrigger (input : TrigInput) (s : State) : Host.Outcome State Fault Refusal :=
  .next (triggerRow input .advance advanceAction s)

/-! ## The capture pair (R165) -/

/-- A capture record of the run as it stands (R165). -/
def State.captureRec (s : State) (source : CaptureSource) : CaptureRec :=
  { source := source
    mode := s.engine.mode
    runKind := s.engine.runKind
    stepCounter := s.engine.stepCounter
    depth := s.engine.depth
    place := s.engine.place
    surveyLane := s.survey.position }

/-- A record becomes the latest; a latest record becomes the previous one (R165). -/
def Trigger.keep (t : Trigger) (r : CaptureRec) : Trigger :=
  { t with
    latest := some r
    previous := if t.latest.isSome then t.latest else t.previous }

/-- A capture made. -/
def captured (source : CaptureSource) (s : State) : State :=
  s.withTrigger (s.trigger.keep (s.captureRec source))

/-- The source of an edge's capture. -/
def sourceOf : TrigInput → CaptureSource
  | .trgA => .trgA
  | .trgB => .trgB

/-- A CAPTURE action: a capture of a live run, with its notice, ignored otherwise (R165). -/
def captureAction (input : TrigInput) (s : State) : State :=
  if s.engine.mode.isLive then
    (captured (sourceOf input) s).notice .capture (s.captureRec (sourceOf input)).bytes
  else s

/-- CAPTURE_TRIGGER. -/
def execCaptureTrigger (input : TrigInput) (s : State) : Host.Outcome State Fault Refusal :=
  .next (triggerRow input .capture (captureAction input) s)

/-! ## Trigger splices (R113) -/

/-- The status a trigger splice is refused with, the preset being in range (R113, R103). -/
def State.spliceRefusal (s : State) (x : Splice) : Option Status :=
  match s.spliceGate with
  | some st => some st
  | none => s.spliceRoom x

/-- What the SPLICE_REFUSED notice carries (R113, R178). -/
def State.refusedPayload (s : State) (input : TrigInput) (st : Status) (x : Splice) : List Byte :=
  [TrigInput.code input, st.code] ++ x.bytes ++ [s.engine.mode.code] ++ bytesC s.engine.stepCounter

/-- A SPLICE action with its preset: accepted, or refused and reported (R113). -/
def spliceAction (input : TrigInput) (x : Splice) (s : State) : State :=
  match s.spliceRefusal x with
  | some st => s.notice .spliceRefused (s.refusedPayload input st x)
  | none => acceptSplice x s

/-- SPLICE_TRIGGER. -/
def execSpliceTrigger (input : TrigInput) (s : State) : Host.Outcome State Fault Refusal :=
  match s.delivery input with
  | some (.splice x) => .next (spliceAction input x (s.levelChanged input))
  | _ => .next s

/-! ## SET_TRIGGER (R162) -/

/-- An input's configuration written; its last level is left as it is (R161). -/
def writeTrigger (input : TrigInput) (edge : TrigEdge) (action : TrigAction) (s : State) : Served :=
  let c : TrigCfg := { s.trigger.cfg input with edge := edge, action := action }
  accept (s.withTrigger (s.trigger.putCfg input c)) (c.bytes ++ bytesB c.lastLevel)

/-- SET_TRIGGER's checks of a splice preset (R162 checks 4, 5). -/
def setSpliceTrigger (input : TrigInput) (edge : TrigEdge) (pattern timing skip : Byte)
    (s : State) : Served :=
  match PatternId.ofByte? pattern, TimingId.ofByte? timing with
  | some p, some t =>
    if !(s.store.content p).isDefined then refuse .notDefined s
    else writeTrigger input edge (.splice ⟨p, t, skip.toNat⟩) s
  | _, _ => refuse .range s

/-- SET_TRIGGER (input, edge, action, preset pattern id, preset timing set, preset skip). -/
def setTrigger (input edge action pattern timing skip : Byte) (s : State) : Served :=
  unlessLocked s <|
    if s.engine.mode.isLive then refuse .state s
    else match TrigInput.ofByte? input, TrigEdge.ofByte? edge with
      | some i, some e =>
        if action = TrigAction.spliceByte then setSpliceTrigger i e pattern timing skip s
        else match TrigAction.plain? action with
          | some act => writeTrigger i e act s
          | none => refuse .range s
      | _, _ => refuse .range s

/-- SET_TRIGGER's payload. -/
def serveSetTrigger : List Byte → State → Served
  | [input, edge, action, pattern, timing, skip], s =>
    setTrigger input edge action pattern timing skip s
  | _, s => refuse .badLength s

/-- SET_TRIGGER. -/
def execSetTrigger (r : Req) (s : State) : Host.Outcome State Fault Refusal :=
  .next (serveRequest (r.frame Kind.setTrigger) serveSetTrigger s)

/-! ## CAPTURE and READ_CAPTURE (R166) -/

/-- CAPTURE: a capture with source REQUEST; its reply carries the record, and no notice is made. -/
def capture (s : State) : Served :=
  unlessLocked s <|
    if s.engine.mode.isLive then accept (captured .request s) (s.captureRec .request).bytes
    else refuse .state s

/-- CAPTURE's payload. -/
def serveCapture : List Byte → State → Served
  | [], s => capture s
  | _, s => refuse .badLength s

/-- CAPTURE. -/
def execCapture (r : Req) (s : State) : Host.Outcome State Fault Refusal :=
  .next (serveRequest (r.frame Kind.capture) serveCapture s)

/-- A capture marked present with its record, or absent (R166, R177; log 9). -/
def captureBytes : Option CaptureRec → List Byte
  | some c => bytesB true ++ c.bytes
  | none => bytesB false ++ absent 14

/-- READ_CAPTURE's results, in the order of R166. -/
def Trigger.record (t : Trigger) : List Byte :=
  captureBytes t.latest ++ captureBytes t.previous ++ t.trgA.bytes ++ t.trgB.bytes
    ++ bytesB t.trgA.lastLevel ++ bytesB t.trgB.lastLevel

/-- READ_CAPTURE's payload; reading changes no state. -/
def serveReadCapture : List Byte → State → Served
  | [], s => accept s s.trigger.record
  | _, s => refuse .badLength s

/-- READ_CAPTURE. -/
def execReadCapture (r : Req) (s : State) : Host.Outcome State Fault Refusal :=
  .next (serveRequest (r.frame Kind.readCapture) serveReadCapture s)

end Sys2Proof.Machine
end

