-- ==== Sys2Proof/Machine/HostLink.lean ====
section
/-! DEFINITION. The host link's own events and requests (11): the resets and start-up, the framer's
characters, complete frames, sent frames, BAD_KIND and NOTICE_MASK. -/

namespace Sys2Proof.Machine

/-! ## Reset and start-up (R176) -/

/-- Every block at its full-reset values, the straps sampled, start-up begun; the queue of waiting
commands is the model's own and stays. -/
def fullReset (straps : BitVec 2) (s : State) : State :=
  { State.reset with
    pending := s.pending
    link := { Link.reset with baud := Baud.ofStraps straps } }

/-- FULL_RESET (log 5). -/
def execFullReset (straps : BitVec 2) (s : State) : Host.Outcome State Fault Refusal :=
  .next (fullReset straps s)

/-- RESETN_DEASSERTED: the straps are sampled and the 10 ms begin; it ends a reset, so it does not
occur while the part operates (log 5). -/
def execResetnDeasserted (straps : BitVec 2) (s : State) : Host.Outcome State Fault Refusal :=
  .next (if s.operating then s else fullReset straps s)

/-- The READY notice's payload: family, part and revision codes (R176). -/
def readyPayload : List Byte := [0x4B, 0x18, 0x01]

/-- The end of start-up: the framer takes bytes, the last levels are those sensed, READY is placed
(R176, R161). -/
def finishStartUp (levelA levelB : Bool) (s : State) : State :=
  { s with
    link := ({ s.link with power := .operating } : Link).notice .ready readyPayload
    trigger :=
      { s.trigger with
        trgA := { s.trigger.trgA with lastLevel := levelA }
        trgB := { s.trigger.trgB with lastLevel := levelB } } }

/-- START_UP_END; while the part operates the event does not occur (log 2). -/
def execStartUpEnd (levelA levelB : Bool) (s : State) : Host.Outcome State Fault Refusal :=
  .next (if s.operating then s else finishStartUp levelA levelB s)

/-! ## The framer (R168, R169) -/

/-- The length byte of a frame in progress, 0 before it. -/
def frameLength (bytes : List Byte) : Nat := (bytes.headD 0).toNat

/-- The frame that the bytes after the start byte hold: tag, kind, payload. -/
def frameOf (bytes : List Byte) : LinkFrame :=
  ⟨bytes.getD 1 0, bytes.getD 2 0, (bytes.drop 3).take (frameLength bytes)⟩

/-- The last two bytes are the CRC of those before them (R168). -/
def crcAgrees (bytes : List Byte) : Bool :=
  bytes.drop (3 + frameLength bytes) = crcBytes (crc (bytes.take (3 + frameLength bytes)))

/-- The bytes of a frame in progress with one more: discarded for its length byte or its CRC, complete,
or still in progress (R169). A frame has L + 5 bytes after the start byte. -/
def Link.takeBytes (l : Link) (bytes : List Byte) : Link :=
  if Config.maxPayload < frameLength bytes then l.discard
  else if bytes.length < frameLength bytes + 5 then { l with framer := .inFrame bytes 0 }
  else if crcAgrees bytes then l.completeFrame (frameOf bytes)
  else l.discard

/-- A character on RXD (R169). -/
def Link.character (l : Link) (b : Byte) (stopBit : Bool) : Link :=
  match l.framer with
  | .hunting => if stopBit && b = 0xC3 then { l with framer := .inFrame [] 0 } else l
  | .inFrame bytes _ => if stopBit then l.takeBytes (bytes ++ [b]) else l.discard

/-- CHARACTER_RECEIVED; during a reset or start-up every byte is ignored (R176). -/
def execCharacterReceived (b : Byte) (stopBit : Bool) (s : State) :
    Host.Outcome State Fault Refusal :=
  .next (if s.operating then s.withLink (s.link.character b stopBit) else s)

/-- A frame is in progress. -/
def Framer.busy : Framer → Bool
  | .hunting => false
  | .inFrame _ _ => true

/-- BYTE_GAP_TIMEOUT (R169); while the framer hunts the event does not occur (log 2). -/
def execByteGapTimeout (s : State) : Host.Outcome State Fault Refusal :=
  .next (if s.operating && s.link.framer.busy then s.withLink s.link.discard else s)

/-- FRAME_COMPLETE (R170): the frame is handed to admission, whatever the framer held before (log 8);
during a reset or start-up every byte is ignored. -/
def execFrameComplete (f : LinkFrame) (s : State) : Host.Outcome State Fault Refusal :=
  .next (if s.operating then s.withLink (s.link.completeFrame f) else s)

/-- FRAME_SENT: the oldest outbound frame leaves the queue (R172); with an empty queue the event does
not occur (log 2). -/
def execFrameSent (s : State) : Host.Outcome State Fault Refusal :=
  .next (s.withLink { s.link with outbound := s.link.outbound.tail })

/-! ## BAD_KIND (R171) -/

/-- BAD_KIND: a request whose kind the table does not list is answered BAD_KIND; a frame of a kind the
table lists, or of no request's kind, is not this row's (log 2). -/
def execBadKind (f : LinkFrame) (s : State) : Host.Outcome State Fault Refusal :=
  .next (if isRequestKind f.kind && !isKnownKind f.kind then
    serveRequest f (fun _ t => refuse .badKind t) s else s)

/-! ## NOTICE_MASK (R173) -/

/-- The mask as it stands after the request: bits 1..8 as written, bit 0 set. -/
def maskOf (mask : BitVec 16) : BitVec 16 := (mask &&& 0x01FE) ||| 0x0001

/-- NOTICE_MASK (mask). -/
def noticeMask (mask : BitVec 16) (s : State) : Served :=
  unlessLocked s <|
    if mask &&& 0xFE00 ≠ 0 then refuse .range s
    else accept (s.withLink { s.link with noticeMask := maskOf mask }) (bytes2 (maskOf mask).toNat)

/-- NOTICE_MASK's payload. -/
def serveNoticeMask : List Byte → State → Served
  | [h, l], s => noticeMask (h ++ l) s
  | _, s => refuse .badLength s

/-- NOTICE_MASK. -/
def execNoticeMask (r : Req) (s : State) : Host.Outcome State Fault Refusal :=
  .next (serveRequest (r.frame Kind.noticeMask) serveNoticeMask s)

end Sys2Proof.Machine
end

