-- ==== Sys2Proof/Machine/Clock.lean ====
section
/-! DEFINITION. One reference tick of 20 ns, which is what a step does when no command waits (log 3):
start-up, the pacer, the wait timer, the pack and the byte gap count time. The moments these lead to
are rows of the table, and stand as commands; the pacer stands still for its own (log 3). -/

namespace Sys2Proof.Machine

/-- The pacer runs only while the engine is RUNNING, the wait timer only in WAITING (R48, R53). -/
def Timing.tick (t : Timing) (m : EngineState) : Timing :=
  { t with
    pacer := if m = .running then t.pacer.map PacerStep.tick else t.pacer
    waitTimer :=
      if m = .waiting && t.waitTimer.running then
        { t.waitTimer with remaining := t.waitTimer.remaining - 1 }
      else t.waitTimer }

/-- A pack in progress has a tick less to go (R37). -/
def Store.tick (t : Store) : Store :=
  { t with pack := t.pack.map fun k => { k with left := k.left - 1 } }

/-- The time since a frame's last byte, which stays at the 2 ms the frame may hold (R169). -/
def Framer.tick : Framer → Framer
  | .hunting => .hunting
  | .inFrame bytes gap => .inFrame bytes (min (gap + 1) Config.gapTicks)

/-- A tick of start-up (R176). -/
def Power.tick : Power → Power
  | .startUp left => .startUp (left - 1)
  | .operating => .operating

/-- The host link's tick. -/
def Link.tick (l : Link) : Link := { l with power := l.power.tick, framer := l.framer.tick }

/-- One reference tick (log 3). -/
def tick (s : State) : State :=
  { s with
    link := s.link.tick
    timing := s.timing.tick s.engine.mode
    store := s.store.tick }

end Sys2Proof.Machine
end

