-- ==== Sys2Proof/Machine/Dispatch.lean ====
section
/-! DEFINITION. The meaning of every command: one arm for each constructor of Instr. -/

namespace Sys2Proof.Machine

def exec (i : Instr) (s : State) : Host.Outcome State Fault Refusal :=
  match i with
  | .fullReset straps => Sys2Proof.Machine.execFullReset straps s
  | .startUpEnd levelA levelB => Sys2Proof.Machine.execStartUpEnd levelA levelB s
  | .frameComplete f => Sys2Proof.Machine.execFrameComplete f s
  | .byteGapTimeout => Sys2Proof.Machine.execByteGapTimeout s
  | .frameSent => Sys2Proof.Machine.execFrameSent s
  | .badKind f => Sys2Proof.Machine.execBadKind f s
  | .status r => Sys2Proof.Machine.execStatus r s
  | .position r => Sys2Proof.Machine.execPosition r s
  | .resetEngine r => Sys2Proof.Machine.execResetEngine r s
  | .noticeMask r => Sys2Proof.Machine.execNoticeMask r s
  | .setBank r => Sys2Proof.Machine.execSetBank r s
  | .setIdlePolicy r => Sys2Proof.Machine.execSetIdlePolicy r s
  | .stageStatic r => Sys2Proof.Machine.execStageStatic r s
  | .applyStatic r => Sys2Proof.Machine.execApplyStatic r s
  | .readLanes r a => Sys2Proof.Machine.execReadLanes r a s
  | .definePattern r => Sys2Proof.Machine.execDefinePattern r s
  | .defineGenerator r => Sys2Proof.Machine.execDefineGenerator r s
  | .writeVectors r => Sys2Proof.Machine.execWriteVectors r s
  | .readVectors r => Sys2Proof.Machine.execReadVectors r s
  | .deletePattern r => Sys2Proof.Machine.execDeletePattern r s
  | .listPatterns r => Sys2Proof.Machine.execListPatterns r s
  | .packStore r => Sys2Proof.Machine.execPackStore r s
  | .packComplete => Sys2Proof.Machine.execPackComplete s
  | .setTiming r => Sys2Proof.Machine.execSetTiming r s
  | .readTiming r => Sys2Proof.Machine.execReadTiming r s
  | .editSlot r => Sys2Proof.Machine.execEditSlot r s
  | .setSlotCount r => Sys2Proof.Machine.execSetSlotCount r s
  | .readRotation r => Sys2Proof.Machine.execReadRotation r s
  | .commitRotation r => Sys2Proof.Machine.execCommitRotation r s
  | .withdrawCommit r => Sys2Proof.Machine.execWithdrawCommit r s
  | .arm r => Sys2Proof.Machine.execArm r s
  | .disarm r => Sys2Proof.Machine.execDisarm r s
  | .start r => Sys2Proof.Machine.execStart r s
  | .stop r => Sys2Proof.Machine.execStop r s
  | .hold r => Sys2Proof.Machine.execHold r s
  | .continueRun r => Sys2Proof.Machine.execContinueRun r s
  | .release r => Sys2Proof.Machine.execRelease r s
  | .advance r => Sys2Proof.Machine.execAdvance r s
  | .splice r => Sys2Proof.Machine.execSplice r s
  | .suspend r => Sys2Proof.Machine.execSuspend r s
  | .resume r => Sys2Proof.Machine.execResume r s
  | .readSnapshot r => Sys2Proof.Machine.execReadSnapshot r s
  | .loadSnapshot r => Sys2Proof.Machine.execLoadSnapshot r s
  | .discardSnapshot r => Sys2Proof.Machine.execDiscardSnapshot r s
  | .setCheck r => Sys2Proof.Machine.execSetCheck r s
  | .clearLane r => Sys2Proof.Machine.execClearLane r s
  | .readFails r => Sys2Proof.Machine.execReadFails r s
  | .readCounts r => Sys2Proof.Machine.execReadCounts r s
  | .survey r => Sys2Proof.Machine.execSurvey r s
  | .readNetMap r => Sys2Proof.Machine.execReadNetMap r s
  | .loadReference r => Sys2Proof.Machine.execLoadReference r s
  | .adoptReference r => Sys2Proof.Machine.execAdoptReference r s
  | .clearReference r => Sys2Proof.Machine.execClearReference r s
  | .setTrigger r => Sys2Proof.Machine.execSetTrigger r s
  | .capture r => Sys2Proof.Machine.execCapture r s
  | .readCapture r => Sys2Proof.Machine.execReadCapture r s
  | .triggerLevelChange input => Sys2Proof.Machine.execTriggerLevelChange input s
  | .startTrigger input => Sys2Proof.Machine.execStartTrigger input s
  | .stopTrigger input => Sys2Proof.Machine.execStopTrigger input s
  | .releaseTrigger input => Sys2Proof.Machine.execReleaseTrigger input s
  | .advanceTrigger input => Sys2Proof.Machine.execAdvanceTrigger input s
  | .captureTrigger input => Sys2Proof.Machine.execCaptureTrigger input s
  | .spliceTrigger input => Sys2Proof.Machine.execSpliceTrigger input s
  | .strobe a => Sys2Proof.Machine.execStrobe a s
  | .stepEnd => Sys2Proof.Machine.execStepEnd s
  | .waitTimeout => Sys2Proof.Machine.execWaitTimeout s
  | .surveyStrobe a => Sys2Proof.Machine.execSurveyStrobe a s
  | .surveyStepEnd => Sys2Proof.Machine.execSurveyStepEnd s
  | .characterReceived b stopBit => Sys2Proof.Machine.execCharacterReceived b stopBit s
  | .resetnDeasserted straps => Sys2Proof.Machine.execResetnDeasserted straps s

end Sys2Proof.Machine
end

