-- ==== Sys2Proof/Machine/Step.lean ====
section
/-! DEFINITION. One step: the command at the front of the queue, or one reference tick where none
waits (log 3). -/

namespace Sys2Proof.Machine

/-- A step takes the oldest waiting command and carries it out over the queue's rest; with no command
waiting, 20 ns pass (log 3). -/
def step (s : State) : Host.Outcome State Fault Refusal :=
  match s.pending with
  | [] => .next (tick s)
  | c :: rest => exec c (s.withPending rest)

/-- The state with the command that a word spells put at the front of the queue; unchanged where the
word spells none, as every word does (the table gives no row bits). -/
def State.withFetchWord (s : State) (nbits w : Nat) : State :=
  match decodeTableWord nbits w with
  | none => s
  | some c => s.withPending (c :: s.pending)

end Sys2Proof.Machine
end

