-- ==== Sys2Proof/Safety.lean ====
section
/-! DEFINITION. The laws of the device, as the spec states them, and the invariants of the model they
rest on. Each is a predicate on one state; `Lawful` is all of them. -/

namespace Sys2Proof.Safety

open Sys2Proof.Machine

/-! ## When a request is served (R171) -/

/-- The part operates, the command unit is free, and the frame is its next request. -/
structure Serving (s : State) (f : LinkFrame) : Prop where
  operating : s.operating = true
  free      : s.store.pack = none
  oldest    : s.link.requests.head? = some f

/-- The state after a request that changed nothing but the link: its reply is placed. -/
def replied (s : State) (f : LinkFrame) (st : Status) (results : List Byte) : State :=
  s.withLink (s.link.answer f ⟨st, results⟩)

/-! ## The request kind table (R178) -/

/-- The kinds whose payload length is one number, each with it (R178). -/
def fixedLengths : List (Byte × Nat) :=
  [Kind.status, Kind.position, Kind.resetEngine, Kind.applyStatic, Kind.readLanes,
    Kind.listPatterns, Kind.packStore, Kind.commitRotation, Kind.withdrawCommit, Kind.disarm,
    Kind.start, Kind.stop, Kind.hold, Kind.continueRun, Kind.release, Kind.advance,
    Kind.readCounts, Kind.readNetMap, Kind.adoptReference, Kind.clearReference, Kind.capture,
    Kind.readCapture].map (fun k => (k, 0))
  ++ [Kind.setIdlePolicy, Kind.deletePattern, Kind.readTiming, Kind.setSlotCount,
    Kind.readRotation, Kind.suspend, Kind.resume, Kind.readSnapshot, Kind.discardSnapshot,
    Kind.readFails].map (fun k => (k, 1))
  ++ [(Kind.noticeMask, 2), (Kind.definePattern, 3), (Kind.splice, 3), (Kind.setCheck, 3),
    (Kind.clearLane, 3), (Kind.setBank, 4), (Kind.readVectors, 4), (Kind.survey, 4),
    (Kind.editSlot, 5), (Kind.arm, 5), (Kind.setTrigger, 6), (Kind.setTiming, 11),
    (Kind.defineGenerator, 12), (Kind.stageStatic, 13), (Kind.loadReference, 96)]

/-- The payload has the length that the table gives for the kind (R171, R178). -/
def lengthFits (f : LinkFrame) : Bool :=
  if f.kind = Kind.writeVectors then
    4 ≤ f.payload.length && f.payload.length = 4 + 13 * (f.payload.getD 3 0).toNat
  else if f.kind = Kind.loadSnapshot then
    17 ≤ f.payload.length && f.payload.length = 17 + 14 * (f.payload.getD 16 0).toNat
  else fixedLengths.contains (f.kind, f.payload.length)

/-- The requests that LOCKOUT does not refuse (R143). -/
def servedInLockout : List Byte :=
  [Kind.status, Kind.position, Kind.readFails, Kind.readCounts, Kind.readLanes, Kind.readCapture,
    Kind.readNetMap, Kind.listPatterns, Kind.readVectors, Kind.readRotation, Kind.readSnapshot,
    Kind.resetEngine]

/-- The requests refused STATE while a run is live (R11, R12, R13, R36, R76, R77, R78, R120, R139,
R140, R148, R162). -/
def refusedDuringARun : List Byte :=
  [Kind.setBank, Kind.stageStatic, Kind.applyStatic, Kind.packStore, Kind.arm, Kind.disarm,
    Kind.start, Kind.resume, Kind.setCheck, Kind.clearLane, Kind.survey, Kind.setTrigger]

/-- The requests refused STATE in IDLE and ARMED (R83, R88, R89, R90, R103, R117, R166). -/
def refusedWithoutARun : List Byte :=
  [Kind.hold, Kind.continueRun, Kind.release, Kind.advance, Kind.splice, Kind.suspend,
    Kind.capture]

/-- The requests refused STATE in a live survey run (R83, R88, R103, R117, R157, R158). -/
def refusedInASurvey : List Byte :=
  [Kind.release, Kind.advance, Kind.splice, Kind.suspend, Kind.loadReference,
    Kind.adoptReference, Kind.clearReference]

/-- The engine state in which a request of this kind is refused STATE. -/
def refusedState (e : Engine) (k : Byte) : Bool :=
  (e.mode.isLive && refusedDuringARun.contains k)
    || ((e.mode = .idle || e.mode = .armed) && refusedWithoutARun.contains k)
    || (e.surveyLive && refusedInASurvey.contains k)
    || (e.mode = .idle && [Kind.disarm, Kind.start, Kind.stop].contains k)
    || (e.mode = .armed && [Kind.packStore, Kind.resume, Kind.survey].contains k)
    || (e.mode.origin?.isSome && k = Kind.hold)
    || ((e.mode = .running || e.mode = .waiting) && k = Kind.continueRun)
    || (e.mode = .running && k = Kind.release)

/-! ## The lanes at a strobe (R129, R130) -/

/-- A lane is a mismatch with the step's record: expected 0 or 1, without NOCHECK, not quarantined, and
its logical sense differs (R129). -/
abbrev LaneMismatch (s : State) (a : Assembly) (v : VectorRec) (n : Lane) : Prop :=
  v.nocheck = false ∧ hasLane s.checker.quarantine n = false ∧
    ((v.expect[n] = .e0 ∧ s.sense a n = true) ∨ (v.expect[n] = .e1 ∧ s.sense a n = false))

/-- A lane is driven: its bank enabled, not quarantined, its applied level 0 or 1 (R8). -/
abbrev LaneDriven (s : State) (n : Lane) : Prop :=
  (s.output.cfg n).enable = true ∧ hasLane s.checker.quarantine n = false ∧
    s.output.applied[n] ≠ .z

/-- A lane is a fault: driven, and its logical sense differs from its applied level (R130). -/
abbrev LaneFault (s : State) (a : Assembly) (n : Lane) : Prop :=
  LaneDriven s n ∧ ((s.output.applied[n] = .zero ∧ s.sense a n = true) ∨
    (s.output.applied[n] = .one ∧ s.sense a n = false))

/-- The pacer runs a step of a run of this kind, and the next tick of running time begins its count S
(R47). -/
abbrev StrobeDue (s : State) (kind : RunKind) : Prop :=
  s.engine.mode = .running ∧ s.engine.runKind = kind ∧
    ∃ k, s.timing.pacer = some k ∧ k.count + 1 = k.strobe ∧ k.prescale ≤ k.spent + 1

/-- The pacer runs a step of a run of this kind, and the next tick of running time completes its count
P−1 (R47). -/
abbrev StepEndDue (s : State) (kind : RunKind) : Prop :=
  s.engine.mode = .running ∧ s.engine.runKind = kind ∧
    ∃ k, s.timing.pacer = some k ∧ k.period ≤ k.count + 1 ∧ k.prescale ≤ k.spent + 1

/-! ## Several commands -/

/-- The commands of a list carried out one after another, for as long as each answers next. -/
def carriedOut : List Instr → State → Host.Outcome State Fault Refusal
  | [], s => .next s
  | c :: cs, s =>
    match exec c s with
    | .next t => carriedOut cs t
    | .fault e => .fault e
    | .refused e => .refused e

/-! ## Edges (R161) -/

/-- While the part operates, the input's next change of level is an edge that delivers its action,
`action`. -/
structure Edge (s : State) (input : TrigInput) (action : TrigAction) : Prop where
  operating : s.operating = true
  action    : (s.trigger.cfg input).action = action
  admitted  : (s.trigger.cfg input).edge.admits (!(s.trigger.cfg input).lastLevel) = true

/-! ## The pattern store (02) -/

/-- A free record: within the store, and in no pattern's extent (R21). -/
abbrev RecordFree (t : Store) (a : Nat) : Prop :=
  a < Config.storeSize ∧ ∀ p : PatternId, ∀ e ∈ t.extent? p, a < e.base ∨ e.base + e.length ≤ a

/-- The vector store keeps its canonical form. -/
abbrev StoreCanonical (s : State) : Prop := s.store.vectors.wf

/-- The fields of a directory entry lie in their ranges (R19, R24). -/
def entryInRange : Content → Bool
  | .undefined => true
  | .stored n b => 1 ≤ n && b + n ≤ Config.storeSize
  | .generated n g => 1 ≤ n && n ≤ Config.maxGenerated && g.mask != 0 && g.step ≤ 23

/-- Every directory entry's fields lie in their ranges. -/
abbrev DirectoryLaw (s : State) : Prop := ∀ p : PatternId, entryInRange (s.store.content p) = true

/-- Two extents have no record in common. -/
abbrev Apart (e f : PackMove) : Prop := e.base + e.length ≤ f.base ∨ f.base + f.length ≤ e.base

/-- "The extents of stored patterns lie within the 2048 vector records, no two overlap" (R21); that
they lie within is `DirectoryLaw`. -/
abbrev ExtentsApart (s : State) : Prop :=
  ∀ p q : PatternId, p ≠ q → ∀ e ∈ s.store.extent? p, ∀ f ∈ s.store.extent? q, Apart e f

/-- While a pack is in progress the engine is IDLE, its request is in service, and its plan is the
store's (R36, R38). -/
abbrev PackLaw (s : State) : Prop :=
  ∀ k ∈ s.store.pack, s.engine.mode = .idle ∧ k.moves = s.store.packPlan ∧
    s.link.requests.head?.map LinkFrame.kind = some Kind.packStore

/-! ## The timing unit (03) -/

/-- A timing set's fields lie in their ranges (R40). -/
abbrev SetInRange (t : TimingSet) : Prop :=
  t.prescale ∈ Config.prescales ∧ 2 ≤ t.period ∧ t.period ≤ Config.maxPeriodTicks ∧
    1 ≤ t.strobe ∧ t.strobe < t.period

/-- Every timing set is in range; so are the values of the step in progress, with its count in 0..P-1
and the time in the count below the prescaled tick (R40, R47). -/
abbrev TimingLaw (s : State) : Prop :=
  (∀ i : TimingId, SetInRange s.timing.sets[i]) ∧
    ∀ k ∈ s.timing.pacer, k.prescale ∈ Config.prescales ∧ 1 ≤ k.strobe ∧ k.strobe < k.period ∧
      k.period ≤ Config.maxPeriodTicks ∧ k.count < k.period ∧ k.spent < k.prescale

/-- The pacer holds a step exactly in RUNNING and in HELD from RUNNING (R48, R49); the wait timer runs
only in a wait (R53); a step record is kept in a rotation run but between two steps (R85, R73). -/
abbrev PaceLaw (s : State) : Prop :=
  (s.timing.pacer.isSome = true ↔ s.engine.mode = .running ∨ s.engine.mode = .held .running) ∧
    (s.timing.waitTimer.running = true →
      s.engine.mode = .waiting ∨ s.engine.mode = .held .waiting) ∧
    (s.engine.stepRecord.isSome = true ↔
      s.engine.rotationLive = true ∧ s.engine.mode ≠ .held .boundary)

/-! ## The output stage (01) -/

/-- In a FOLLOW bank staging and applied level are equal (R3). -/
abbrev FollowLaw (s : State) : Prop :=
  ∀ n : Lane, (s.output.cfg n).mode = .follow → s.output.applied[n] = s.output.staging[n]

/-! ## The rotation unit (04) -/

/-- "a swap is waiting only while a rotation run is live" (R67). -/
abbrev SwapLaw (s : State) : Prop := s.rotation.swapWaiting = true → s.engine.rotationLive = true

/-! ## The run engine (05, 06, 07) -/

/-- No frame outside a live rotation run; in one, a live frame over at most 4 saved frames, with room
for a pending splice (R80, R106). -/
abbrev FramesHeld (e : Engine) : Prop :=
  (e.rotationLive = false → e.live = none ∧ e.stack = [] ∧ e.pendingSplice = none) ∧
    (e.rotationLive = true → e.live.isSome = true) ∧
    e.stack.length + (if e.pendingSplice.isSome then 1 else 0) ≤ Config.stackLimit

/-- A list of frames, base first: "The bottom frame is always the one BASE frame" (R80). -/
def baseThenSplices : List SavedFrame → Bool
  | [] => true
  | f :: rest => f.frame.base.isSome && rest.all fun g => g.frame.base.isNone

/-- A snapshot is EMPTY with no frames, or holds 1 to 5 frames, a BASE frame first and SPLICE frames
after it (R116, R121). -/
abbrev SnapshotFormed (x : Snapshot) : Prop :=
  (x.state = .empty → x.frames = []) ∧ (x.state ≠ .empty → snapFormOk x.frames = true)

/-- "the context stack holds at most 4 saved frames, and holds none while the engine is IDLE, ARMED or
LOCKOUT" (R80), with what it rests on. -/
abbrev StackLaw (s : State) : Prop :=
  FramesHeld s.engine ∧ baseThenSplices s.engine.frames = true ∧
    ∀ n : SnapshotId, SnapshotFormed s.engine.snapshots[n]

/-! ## The survey unit (09) -/

/-- A live run is a rotation run or a survey (R73); "A survey is never WAITING, so in HELD its origin
is always RUNNING" (R155); its position is a participant, and is absent when no survey is live (R147,
R152). -/
abbrev SurveyLaw (s : State) : Prop :=
  (s.engine.mode.isLive = true → s.engine.runKind ≠ .none) ∧
    (s.engine.surveyLive = true →
      (s.engine.mode = .running ∨ s.engine.mode = .held .running) ∧
        s.survey.position.any (hasLane s.survey.participants) = true) ∧
    (s.engine.surveyLive = false → s.survey.position = none)

/-! ## The checker (08) -/

/-- "the number of quarantined lanes is below the quarantine limit in every state except LOCKOUT"
(R137), the limit being 1 or more. -/
abbrev QuarantineLaw (s : State) : Prop :=
  1 ≤ s.checker.quarantineLimit ∧
    (s.engine.mode ≠ .lockout → s.checker.quarantinedCount < s.checker.quarantineLimit)

/-- "the fail log holds at most 64 records" (R134). -/
abbrev LogLaw (s : State) : Prop := s.checker.failLog.length ≤ Config.logLimit

/-- "each lane's mismatch count lies in 0..255, and the failing-step count lies in 0..65535" (R134),
the fault counts in 0..15 (R128), and the saved failing-step counts in 0..65535 (R116). -/
abbrev CountLaw (s : State) : Prop :=
  (∀ n : Lane, s.checker.mismatchCounts[n] ≤ Config.maxMismatch ∧
    s.checker.faultCounts[n] ≤ Config.maxFault) ∧
    s.checker.failingSteps ≤ Config.maxFailing ∧
    ∀ n : SnapshotId, s.engine.snapshots[n].failingSteps ≤ Config.maxFailing

/-! ## The host link (11) -/

/-- "notices occupy at most 12 of the 16 outbound queue entries" (R172); every request admitted has its
reserved entry, and is of a request's kind (R170). -/
abbrev QueueLaw (s : State) : Prop :=
  s.link.requests.length ≤ Config.requestEntries ∧
    s.link.outbound.length + s.link.requests.length ≤ Config.outboundEntries ∧
    s.link.notices ≤ Config.noticeCap ∧
    ∀ f ∈ s.link.requests, isRequestKind f.kind = true

/-- In a reset or start-up both queues are empty and the engine is IDLE (R176). -/
abbrev StartUpLaw (s : State) : Prop :=
  s.operating = false → s.link.requests = [] ∧ s.link.outbound = [] ∧ s.engine.mode = .idle

/-- READY's bit of the mask is set, and bits 9 to 15 are clear (R173). -/
abbrev MaskLaw (s : State) : Prop := s.link.noticeMask &&& 0xFE01 = 0x0001

/-- A frame in progress has a length byte of 240 or less, and fewer bytes than it needs (R169). -/
def framerInForm : Framer → Bool
  | .hunting => true
  | .inFrame bytes _ =>
    frameLength bytes ≤ Config.maxPayload && bytes.length < frameLength bytes + 5

/-- The framer is in form. -/
abbrev FramerLaw (s : State) : Prop := framerInForm s.link.framer = true

/-! ## References and positions (R30, R57, R59) -/

/-- A rotation that may be played: one slot or more, each below the count with a defined pattern and a
dwell of 1 or more (R64). -/
abbrev Playable (t : Store) (r : Rotation) : Prop :=
  0 < r.count ∧ r.count ≤ 16 ∧
    ∀ i : SlotIndex, i.val < r.count →
      (t.content r.slots[i].pattern).isDefined = true ∧ 1 ≤ r.slots[i].dwell

/-- "every active-rotation slot below the active slot count, every frame held by the run engine and
every trigger splice preset names a defined pattern" (R57): the active rotation is playable or has no
slots, and is playable while armed or played; the pending one is while a swap waits (R66); the pending
splice's pattern is defined (R102). -/
abbrev ReferenceLaw (s : State) : Prop :=
  (s.rotation.active.count = 0 ∨ Playable s.store s.rotation.active) ∧
    (s.engine.mode = .armed ∨ s.engine.rotationLive = true → Playable s.store s.rotation.active) ∧
    (s.rotation.swapWaiting = true → Playable s.store s.rotation.pendingRot) ∧
    s.rotation.pendingRot.count ≤ 16 ∧
    (∀ g ∈ s.engine.frames, (s.store.content g.frame.pattern).isDefined = true) ∧
    (∀ x ∈ s.engine.pendingSplice, (s.store.content x.pattern).isDefined = true) ∧
    ∀ p : PatternId, s.trigger.names p = true → (s.store.content p).isDefined = true

/-- A frame at a position of its pass, a BASE frame on the slot it names with 1..dwell passes left
(R80, R59). -/
def framePlaced (s : State) (f : RunFrame) : Bool :=
  suited (s.directionOf f) (s.lengthOf f) f.pos &&
    match f.base with
    | none => true
    | some b =>
      b.slot.val < s.rotation.active.count && f.pattern = s.rotation.active.slots[b.slot].pattern
        && 1 ≤ b.passesLeft && b.passesLeft ≤ s.rotation.active.slots[b.slot].dwell

/-- Every frame of the run is placed. -/
abbrev PositionLaw (s : State) : Prop := ∀ g ∈ s.engine.frames, framePlaced s g.frame = true

/-! ## Field ranges -/

/-- The run options lie in their ranges (R75). -/
abbrev OptionsInRange (o : Options) : Prop := o.stopOnFail ≤ 255 ∧ o.waitTimeout ≤ 65535

/-- The splice preset of an action: present exactly when it is SPLICE (R161). -/
def presetOf : TrigAction → Option Splice
  | .splice x => some x
  | .none => none
  | .start => none
  | .stop => none
  | .release => none
  | .advance => none
  | .capture => none

/-- Dwells (R56), skips (R80, R102, R161), options (R75, R116), and the checker's settings (R128) lie
in their ranges. -/
abbrev RangeLaw (s : State) : Prop :=
  (∀ i : SlotIndex, s.rotation.active.slots[i].dwell ≤ 255 ∧
    s.rotation.pendingRot.slots[i].dwell ≤ 255) ∧
    (∀ g ∈ s.engine.stack, g.skip ≤ 255) ∧
    (∀ x ∈ s.engine.pendingSplice, x.skip ≤ 255) ∧
    (∀ x ∈ presetOf s.trigger.trgA.action, x.skip ≤ 255) ∧
    (∀ x ∈ presetOf s.trigger.trgB.action, x.skip ≤ 255) ∧
    OptionsInRange s.engine.options ∧
    (∀ n : SnapshotId, OptionsInRange s.engine.snapshots[n].options) ∧
    1 ≤ s.checker.faultThreshold ∧ s.checker.faultThreshold ≤ 15 ∧
    1 ≤ s.checker.quarantineLimit ∧ s.checker.quarantineLimit ≤ 24

/-! ## All of them -/

/-- A state in which every law of the device holds. -/
structure Lawful (s : State) : Prop where
  storeCanonical : StoreCanonical s
  directory      : DirectoryLaw s
  extentsApart   : ExtentsApart s
  pack           : PackLaw s
  timing         : TimingLaw s
  pace           : PaceLaw s
  follow         : FollowLaw s
  swap           : SwapLaw s
  survey         : SurveyLaw s
  stack          : StackLaw s
  quarantine     : QuarantineLaw s
  log            : LogLaw s
  counts         : CountLaw s
  queue          : QueueLaw s
  startUp        : StartUpLaw s
  mask           : MaskLaw s
  framer         : FramerLaw s
  references     : ReferenceLaw s
  positions      : PositionLaw s
  ranges         : RangeLaw s

end Sys2Proof.Safety
end

