-- ==== Sys2Proof/WellFormed.lean ====
section
/-! DEFINITION. Well-formed commands: those the link and the pins can bring about. A payload has at
most 240 bytes (R168); a BAD_KIND request has a request's kind that the table does not list (R170,
R171); an assembly names a level only for the lanes it holds. -/

namespace Sys2Proof

/-- A frame the link can carry (R168). -/
def LinkFrame.wf (f : LinkFrame) : Bool := f.payload.length ≤ Config.maxPayload

/-- No level is named for a lane that is not held. -/
def Assembly.wf (a : Assembly) : Bool := a.levels &&& ~~~a.holds == 0#24

/-- The pins' part of a command's check. -/
def Instr.pinsWf : Instr → Bool
  | .readLanes _ a => a.wf
  | .strobe a => a.wf
  | .surveyStrobe a => a.wf
  | _ => true

/-- The kind's part of a command's check: only BAD_KIND names its kind itself. -/
def Instr.kindWf : Instr → Bool
  | .badKind f => isRequestKind f.kind && !isKnownKind f.kind
  | _ => true

/-- The payload's part of a command's check. -/
def Instr.payloadWf : Instr → Bool
  | .frameComplete f => f.wf
  | i => match i.frame? with
    | some f => f.wf
    | none => true

/-- A command that the link and the pins can bring about. -/
def Instr.wf (i : Instr) : Bool := i.payloadWf && i.kindWf && i.pinsWf

end Sys2Proof
end

