-- ==== Sys2Proof/Certificates/Slice0/Obligations.lean ====
section
/-! DEFINITION. The statements for the provers. Where a request is meant, `Serving s f` says that the
part operates, the command unit is free and the request's frame `f` is next; `replied t f st results`
is `t` with the reply placed and the request gone (R171). -/

section

open Sys2Proof Sys2Proof.Machine Sys2Proof.Safety

/-! ## The step -/

/-- A step takes the command at the front of the queue and carries it out over the queue's rest. -/
def Obligations.StepTakesTheOldestCommand : Prop :=
  ∀ (c : Instr) (rest : List Instr) (s : State),
    s.pending = c :: rest → step s = exec c (s.withPending rest)

/-- With no command waiting, one reference tick of 20 ns passes (the model's choice, log 3): start-up,
byte gap, pacer, wait timer and pack count it, and nothing else changes (R176, R169, R47, R53, R37). A
pacer's tick after tick from a step start comes to the last tick before S·p, where its strobe is due,
and from the strobe to the last tick before P·p, where the step's end is (R47). -/
def Obligations.IdleStepIsOneTick : Prop :=
  (∀ s : State, s.pending = [] → ∃ t : State, step s = .next t ∧
    t.rotation = s.rotation ∧ t.engine = s.engine ∧ t.output = s.output ∧ t.checker = s.checker ∧
    t.survey = s.survey ∧ t.trigger = s.trigger ∧ t.pending = [] ∧
    t.store = { s.store with pack := s.store.pack.map fun k => { k with left := k.left - 1 } } ∧
    t.timing.sets = s.timing.sets ∧
    (s.engine.mode ≠ .running → t.timing.pacer = s.timing.pacer) ∧
    (s.engine.mode = .running → s.timing.pacer = none → t.timing.pacer = none) ∧
    (∀ k : PacerStep, s.engine.mode = .running → s.timing.pacer = some k →
      (k.spent + 1 < k.prescale → t.timing.pacer = some { k with spent := k.spent + 1 }) ∧
      (k.prescale ≤ k.spent + 1 → k.count + 1 ≠ k.strobe → k.count + 1 < k.period →
        t.timing.pacer = some { k with count := k.count + 1, spent := 0 }) ∧
      (k.prescale ≤ k.spent + 1 → k.count + 1 = k.strobe ∨ k.period ≤ k.count + 1 →
        t.timing.pacer = some k)) ∧
    t.timing.waitTimer =
      (if s.engine.mode = .waiting ∧ s.timing.waitTimer.running = true then
        { s.timing.waitTimer with remaining := s.timing.waitTimer.remaining - 1 }
      else s.timing.waitTimer) ∧
    t.link = { s.link with power := t.link.power, framer := t.link.framer } ∧
    (s.link.power = .operating → t.link.power = .operating) ∧
    (∀ n, s.link.power = .startUp n → t.link.power = .startUp (n - 1)) ∧
    (s.link.framer = .hunting → t.link.framer = .hunting) ∧
    ∀ bytes gap, s.link.framer = .inFrame bytes gap →
      t.link.framer = .inFrame bytes (min (gap + 1) 100000)) ∧
  ∀ p period strobe : Nat, 1 ≤ p → 1 ≤ strobe → strobe < period →
    (∀ n, n < strobe * p →
      PacerStep.tick^[n] ⟨p, period, strobe, 0, 0⟩ = ⟨p, period, strobe, n / p, n % p⟩ ∧
      (PacerStep.strobeDue ⟨p, period, strobe, n / p, n % p⟩ = true ↔ n + 1 = strobe * p)) ∧
    ∀ n, strobe * p ≤ n → n < period * p →
      PacerStep.tick^[n - strobe * p] ⟨p, period, strobe, strobe, 0⟩ =
        ⟨p, period, strobe, n / p, n % p⟩ ∧
      (PacerStep.endDue ⟨p, period, strobe, n / p, n % p⟩ = true ↔ n + 1 = period * p)

/-- Every command, in every state, has a next state, and none touches the queue of those that wait. An
event's row in a state where the event cannot occur answers one too: that is the model's choice (log
2); R171 says it of requests alone. -/
def Obligations.EveryCommandAnswersANextState : Prop :=
  ∀ (c : Instr) (s : State), ∃ t : State, exec c s = .next t ∧ t.pending = s.pending

/-! ## Reset and start-up (R176) -/

/-- FULL_RESET, and RESETN_DEASSERTED in a reset, leave every block at its full-reset values (R17, R39,
R55, R72, R101, R127, R146, R160, R167, R173, R176) with the 10 ms start-up begun; the trigger levels
before its end are the model's choice (log 4), and so is when the row occurs (log 5). START_UP_END, at any
time left of start-up (the model's choice, log 3): the part takes bytes, the last levels are those sensed, and READY is the one frame in the outbound queue
(R176, R161); while the part operates the row does not occur (log 2). -/
def Obligations.FullResetAndStartUp : Prop :=
  (∀ (straps : BitVec 2) (s : State), ∃ t : State,
    exec (.fullReset straps) s = .next t ∧
    (s.operating = false → exec (.resetnDeasserted straps) s = .next t) ∧
    (s.operating = true → exec (.resetnDeasserted straps) s = .next s) ∧
    t.pending = s.pending ∧
    t.link =
      { power := .startUp 500000
        baud := if straps = 0 then .b115200 else if straps = 1 then .b460800
          else if straps = 2 then .b921600 else .b3000000
        framer := .hunting
        requests := []
        outbound := []
        noticeMask := 0x01FF
        linkError := false
        noticeLost := false } ∧
    t.store.pack = none ∧ (∀ p : PatternId, t.store.directory[p] = ⟨.undefined, 0⟩) ∧
    t.store.freeCount = 2048 ∧ t.store.largestFree = 2048 ∧
    (∀ i : TimingId, t.timing.sets[i] = ⟨1, 50, 25, 1000, 500, false⟩) ∧
    t.timing.pacer = none ∧ t.timing.waitTimer = ⟨false, 0⟩ ∧
    t.rotation.version = 0 ∧ t.rotation.swapWaiting = false ∧
    t.rotation.active.count = 0 ∧ t.rotation.pendingRot.count = 0 ∧
    (∀ i : SlotIndex, t.rotation.active.slots[i] = ⟨0, 0, .forward, 0⟩ ∧
      t.rotation.pendingRot.slots[i] = ⟨0, 0, .forward, 0⟩) ∧
    t.engine =
      { mode := .idle
        runKind := .none
        options := ⟨.oneShot, 0, 0, true⟩
        live := none
        stack := []
        pendingSplice := none
        stepRecord := none
        releaseLatch := false
        advanceLatch := false
        pendingStop := .none
        quarantineInRun := false
        continuityFail := false
        stepCounter := 0
        lastStop := .none
        verdict := .none
        snapshots := t.engine.snapshots } ∧
    (∀ n : SnapshotId, t.engine.snapshots[n] = ⟨.empty, ⟨.oneShot, 0, 0, true⟩, 0, 0, 0, []⟩) ∧
    (∀ n : Lane, t.output.staging[n] = .z ∧ t.output.applied[n] = .z ∧
      t.output.cfg n = ⟨.latched, false, false⟩ ∧ t.pinLevel n = .released) ∧
    t.output.idlePolicy = .release ∧
    (∀ n : Lane, t.checker.mismatchCounts[n] = 0 ∧ t.checker.faultCounts[n] = 0) ∧
    t.checker.quarantine = 0 ∧ t.checker.faultThreshold = 3 ∧ t.checker.quarantineLimit = 8 ∧
    t.checker.quarantineAction = .goOn ∧ t.checker.failLog = [] ∧
    t.checker.logOverflow = false ∧ t.checker.failingSteps = 0 ∧
    t.checker.firstFailNotified = false ∧
    t.survey.participants = 0 ∧ t.survey.position = none ∧ t.survey.timingSet = 0 ∧
    t.survey.mapComplete = false ∧ t.survey.referencePresent = false ∧
    (∀ n : Lane, t.survey.netMap[n] = none ∧ t.survey.reference[n] = none) ∧
    t.trigger = ⟨⟨.rising, .none, false⟩, ⟨.rising, .none, false⟩, none, none⟩) ∧
  ∀ (a b : Bool) (s : State),
    (s.operating = false → StartUpLaw s →
      exec (.startUpEnd a b) s = .next
        { s with
          link :=
            { s.link with
              power := .operating
              outbound := [⟨0, 0xE0, [0x4B, 0x18, 0x01]⟩] }
          trigger :=
            { s.trigger with
              trgA := { s.trigger.trgA with lastLevel := a }
              trgB := { s.trigger.trgB with lastLevel := b } } }) ∧
    (s.operating = true → exec (.startUpEnd a b) s = .next s)

/-! ## The link (11) -/

/-- FRAME_COMPLETE: the frame is discarded, admitted, answered QUEUE_FULL or dropped (R170), and the
framer hunts whatever it held before, which is the model's choice (log 8); a payload over 240 bytes is
no frame of R168, and is discarded as its length byte would be (R169, log 8). -/
def Obligations.FrameCompleteIsAdmittedOrAnswered : Prop :=
  ∀ (f : LinkFrame) (s : State), s.operating = true →
    (240 < f.payload.length →
      exec (.frameComplete f) s = .next
        { s with link := { s.link with framer := .hunting, linkError := true } }) ∧
    (f.payload.length ≤ 240 → 0x60 ≤ f.kind.toNat →
      exec (.frameComplete f) s = .next
        { s with link := { s.link with framer := .hunting, linkError := true } }) ∧
    (f.payload.length ≤ 240 → f.kind.toNat < 0x60 → s.link.requests.length < 4 →
      s.link.outbound.length + s.link.requests.length < 16 →
      exec (.frameComplete f) s = .next
        { s with link :=
            { s.link with framer := .hunting, requests := s.link.requests ++ [f] } }) ∧
    (f.payload.length ≤ 240 → f.kind.toNat < 0x60 → 4 ≤ s.link.requests.length →
      s.link.outbound.length + s.link.requests.length < 16 →
      exec (.frameComplete f) s = .next
        { s with link :=
            { s.link with
              framer := .hunting
              outbound := s.link.outbound ++ [⟨f.tag, f.kind + 0x80, [0x14]⟩] } }) ∧
    (f.payload.length ≤ 240 → f.kind.toNat < 0x60 → 16 ≤ s.link.outbound.length + s.link.requests.length →
      exec (.frameComplete f) s = .next
        { s with link := { s.link with framer := .hunting, linkError := true } })

/-- CHARACTER_RECEIVED and BYTE_GAP_TIMEOUT move the receive framer (R169). Where `bytes` stand after
the start byte, the first of them is the length byte L; the last two of L + 5 are the CRC (R168). That
BYTE_GAP_TIMEOUT is taken whatever the gap counted so far is the model's choice (log 3), and so is that it
does not occur outside a frame (log 2). During a reset or start-up every byte is ignored, a whole frame's
too (R176). -/
def Obligations.FramerTakesCharacters : Prop :=
  (∀ (b : Byte) (stopBit : Bool) (s : State), s.operating = true →
    (s.link.framer = .hunting → b = 0xC3 → stopBit = true →
      exec (.characterReceived b stopBit) s = .next
        { s with link := { s.link with framer := .inFrame [] 0 } }) ∧
    (s.link.framer = .hunting → b ≠ 0xC3 ∨ stopBit = false →
      exec (.characterReceived b stopBit) s = .next s) ∧
    (s.link.framer = .hunting → exec .byteGapTimeout s = .next s) ∧
    ∀ bytes gap, s.link.framer = .inFrame bytes gap →
      exec .byteGapTimeout s = .next
        { s with link := { s.link with framer := .hunting, linkError := true } } ∧
      (stopBit = false → exec (.characterReceived b stopBit) s = .next
        { s with link := { s.link with framer := .hunting, linkError := true } }) ∧
      (stopBit = true → ∀ l rest, bytes ++ [b] = l :: rest →
        (240 < l.toNat → exec (.characterReceived b stopBit) s = .next
          { s with link := { s.link with framer := .hunting, linkError := true } }) ∧
        (l.toNat ≤ 240 → rest.length < l.toNat + 4 →
          exec (.characterReceived b stopBit) s = .next
            { s with link := { s.link with framer := .inFrame (bytes ++ [b]) 0 } }) ∧
        ∀ tag kind payload hi lo, l.toNat ≤ 240 → payload.length = l.toNat →
          rest = tag :: kind :: (payload ++ [hi, lo]) →
          (crc (l :: tag :: kind :: payload) = hi ++ lo →
            exec (.characterReceived b stopBit) s = exec (.frameComplete ⟨tag, kind, payload⟩) s) ∧
          (crc (l :: tag :: kind :: payload) ≠ hi ++ lo →
            exec (.characterReceived b stopBit) s = .next
              { s with link := { s.link with framer := .hunting, linkError := true } }))) ∧
  ∀ (b : Byte) (stopBit : Bool) (f : LinkFrame) (s : State), s.operating = false →
    exec (.characterReceived b stopBit) s = .next s ∧ exec (.frameComplete f) s = .next s ∧
      exec .byteGapTimeout s = .next s

/-- A frame written as R168 lays it down and received byte after byte is that frame complete: no bit of
it is dropped. -/
def Obligations.WrittenFrameIsReceivedWhole : Prop :=
  ∀ (f : LinkFrame) (s : State), s.operating = true → s.link.framer = .hunting →
    f.payload.length ≤ 240 →
    carriedOut (f.wire.map fun b => .characterReceived b true) s = exec (.frameComplete f) s

/-- A notice is masked out, placed at the tail, or dropped with NOTICE_LOST set; FRAME_SENT takes the
oldest frame from the queue (R172, R173). -/
def Obligations.NoticesArePlacedAndFramesSent : Prop :=
  (∀ (k : NoticeKind) (payload : List Byte) (s : State),
    (k ≠ .ready → s.link.noticeMask.getLsbD k.bit = false → s.notice k payload = s) ∧
    (k = .ready ∨ s.link.noticeMask.getLsbD k.bit = true →
      ((s.link.outbound.filter fun f => 0xE0 ≤ f.kind.toNat).length < 12 →
        s.link.outbound.length + s.link.requests.length < 16 →
        s.notice k payload =
          { s with link :=
              { s.link with
                outbound := s.link.outbound ++ [⟨0, BitVec.ofNat 8 (0xE0 + k.bit), payload⟩] } }) ∧
      (12 ≤ (s.link.outbound.filter fun f => 0xE0 ≤ f.kind.toNat).length ∨
        16 ≤ s.link.outbound.length + s.link.requests.length →
        s.notice k payload = { s with link := { s.link with noticeLost := true } }))) ∧
  ∀ (f : LinkFrame) (rest : List LinkFrame) (s : State), s.link.outbound = f :: rest →
    exec .frameSent s = .next { s with link := { s.link with outbound := rest } }

/-- A request of a kind the table does not list is answered BAD_KIND, and one of a wrong payload length
BAD_LENGTH, with no other change (R171). -/
def Obligations.BadKindAndBadLengthAreAnswered : Prop :=
  (∀ (f : LinkFrame) (s : State), Serving s f → f.kind.toNat < 0x60 → f.kind ∉ knownKinds →
    exec (.badKind f) s = .next (replied s f .badKind [])) ∧
  ∀ (i : Instr) (f : LinkFrame) (s : State), i.frame? = some f → f.kind ∈ knownKinds →
    i.kindWf = true → Serving s f → lengthFits f = false →
    exec i s = .next (replied s f .badLength [])

/-- Every request taken but PACK_STORE leaves the queue and has its one reply placed, with its tag and
its kind plus 0x80, behind only notices made while it was carried out (R171, R168). -/
def Obligations.EveryRequestGetsOneReply : Prop :=
  ∀ (i : Instr) (f : LinkFrame) (s : State), i.kindWf = true → i.frame? = some f →
    f.kind ≠ Kind.packStore → Serving s f →
    ∃ (t : State) (notices : List LinkFrame) (st : Status) (results : List Byte),
      exec i s = .next t ∧ t.link.requests = s.link.requests.tail ∧
      (∀ g ∈ notices, g.tag = 0 ∧ 0xE0 ≤ g.kind.toNat) ∧
      t.link.outbound =
        s.link.outbound ++ notices ++ [⟨f.tag, f.kind + 0x80, st.code :: results⟩]

/-- A request row met in start-up changes nothing; while another request is older its frame is admitted
as FRAME_COMPLETE admits it; and with an empty queue, a free command unit and room for its reply it is
admitted and taken at once (the model's reading of when a request is taken, log 1; R170, R171, R176). -/
def Obligations.RequestsWaitTheirTurn : Prop :=
  ∀ (i : Instr) (f : LinkFrame) (s : State), i.kindWf = true → i.frame? = some f →
    (s.operating = false → exec i s = .next s) ∧
    (∀ older rest, s.operating = true → s.link.requests = older :: rest → older ≠ f →
      exec i s = exec (.frameComplete f) s) ∧
    (s.operating = true → s.store.pack = none → s.link.requests = [] →
      s.link.outbound.length < 16 → f.payload.length ≤ 240 →
      exec i s =
        exec i { s with link := { s.link with framer := .hunting, requests := [f] } })

/-- LOCKOUT refuses LOCKED, before any other check, every request of known kind and correct length but
those of R143's list; and the requests that the engine state refuses STATE change nothing (R11, R12,
R13, R36, R76, R77, R78, R83, R88, R89, R90, R93, R103, R117, R120, R139, R140, R148, R157, R158, R162,
R166). -/
def Obligations.EngineStateRefusesRequests : Prop :=
  (∀ (i : Instr) (f : LinkFrame) (s : State), i.kindWf = true → i.frame? = some f →
    f.kind ∈ knownKinds → lengthFits f = true → Serving s f → s.engine.mode = .lockout →
    f.kind ∉ servedInLockout → exec i s = .next (replied s f .locked [])) ∧
  ∀ (i : Instr) (f : LinkFrame) (s : State), i.kindWf = true → i.frame? = some f →
    lengthFits f = true → Serving s f → refusedState s.engine f.kind = true →
    exec i s = .next (replied s f .state [])

/-- STATUS replies its summary and then clears LINK_ERROR and NOTICE_LOST (R99, R178). NOTICE_MASK: bits
9..15 refuse it, else bits 1..8 are written and bit 0 stays set (R173). -/
def Obligations.StatusAndNoticeMask : Prop :=
  (∀ (r : Req) (s : State), r.payload = [] → Serving s (r.frame Kind.status) →
    exec (.status r) s = .next
      (replied { s with link := { s.link with linkError := false, noticeLost := false } }
        (r.frame Kind.status) .ok
        ([s.engine.mode.code, s.engine.runKind.code, s.engine.lastStop.code, s.engine.verdict.code]
          ++ byte s.engine.stack.length ++ byte (laneCount s.checker.quarantine)
          ++ byte s.checker.failLog.length ++ bytesC s.engine.stepCounter
          ++ [BitVec.ofNat 8 ((if s.link.linkError then 1 else 0)
              + (if s.link.noticeLost then 2 else 0) + (if s.checker.logOverflow then 4 else 0)
              + (if s.rotation.swapWaiting then 8 else 0)
              + (if s.survey.referencePresent then 16 else 0))]))) ∧
  ∀ (r : Req) (s : State) (h l : Byte), r.payload = [h, l] →
    Serving s (r.frame Kind.noticeMask) → s.engine.mode ≠ .lockout →
    ((∃ k, 9 ≤ k ∧ (h ++ l).getLsbD k = true) →
      exec (.noticeMask r) s = .next (replied s (r.frame Kind.noticeMask) .range [])) ∧
    ((∀ k, 9 ≤ k → (h ++ l).getLsbD k = false) →
      ∃ m : BitVec 16, (∀ k, m.getLsbD k = (decide (k = 0) || (h ++ l).getLsbD k)) ∧
        exec (.noticeMask r) s = .next
          (replied { s with link := { s.link with noticeMask := m } } (r.frame Kind.noticeMask) .ok
            (bytes2 m.toNat)))

/-! ## Lanes and banks (01) -/

/-- SET_BANK writes the three settings of one bank; LATCHED to FOLLOW copies its staging levels (R11,
R4). SET_IDLE_POLICY sets the policy and no lane level (R9). -/
def Obligations.OutputSettingsAreWritten : Prop :=
  (∀ (r : Req) (s : State) (bank mode invert enable : Byte),
    r.payload = [bank, mode, invert, enable] → Serving s (r.frame Kind.setBank) →
    s.engine.mode = .idle ∨ s.engine.mode = .armed →
    (Bank.ofByte? bank = none ∨ BankMode.ofByte? mode = none →
      exec (.setBank r) s = .next (replied s (r.frame Kind.setBank) .range [])) ∧
    ∀ w m, Bank.ofByte? bank = some w → BankMode.ofByte? mode = some m →
      ∃ o : Output,
        exec (.setBank r) s = .next
          (replied { s with output := o } (r.frame Kind.setBank) .ok
            [m.code, if invert = 0 then 0 else 1, if enable = 0 then 0 else 1]) ∧
        o.bank w = ⟨m, decide (invert ≠ 0), decide (enable ≠ 0)⟩ ∧
        (∀ w', w' ≠ w → o.bank w' = s.output.bank w') ∧ o.staging = s.output.staging ∧
        o.idlePolicy = s.output.idlePolicy ∧
        ∀ n : Lane, o.applied[n] =
          if bankOf n = w ∧ (s.output.bank w).mode = .latched ∧ m = .follow
          then s.output.staging[n] else s.output.applied[n]) ∧
  ∀ (r : Req) (s : State) (policy : Byte), r.payload = [policy] →
    Serving s (r.frame Kind.setIdlePolicy) → s.engine.mode ≠ .lockout →
    (IdlePolicy.ofByte? policy = none →
      exec (.setIdlePolicy r) s = .next (replied s (r.frame Kind.setIdlePolicy) .range [])) ∧
    ∀ p, IdlePolicy.ofByte? policy = some p →
      exec (.setIdlePolicy r) s = .next
        (replied { s with output := { s.output with idlePolicy := p } }
          (r.frame Kind.setIdlePolicy) .ok [])

/-- STAGE_STATIC stages the drive codes of any 13 bytes, the expect codes and flags ignored even where
they are ill-formed, and FOLLOW banks copy; APPLY_STATIC copies the staging levels of LATCHED banks
(R12, R13, R2, R3, R4, R178). -/
def Obligations.StaticDriveStagesAndApplies : Prop :=
  (∀ (r : Req) (s : State), r.payload.length = 13 →
    Serving s (r.frame Kind.stageStatic) → s.engine.mode = .idle ∨ s.engine.mode = .armed →
    let bit (n : Lane) (k : Nat) : Bool :=
      (r.payload.getD (n.val / 2) 0).getLsbD (4 * (n.val % 2) + k)
    ∃ o : Output,
      exec (.stageStatic r) s = .next
        (replied { s with output := o } (r.frame Kind.stageStatic) .ok []) ∧
      o = { s.output with staging := o.staging, applied := o.applied } ∧
      (∀ v : VectorRec, r.payload = v.bytes → ∀ n : Lane, o.staging[n] =
        match v.drive[n] with
        | .d0 => Level.zero
        | .d1 => .one
        | .z => .z
        | .k => s.output.staging[n]) ∧
      (∀ n : Lane, o.staging[n] =
        match bit n 1, bit n 0 with
        | false, false => Level.zero
        | false, true => .one
        | true, false => .z
        | true, true => s.output.staging[n]) ∧
      ∀ n : Lane, o.applied[n] =
        if (s.output.cfg n).mode = .follow then o.staging[n] else s.output.applied[n]) ∧
  ∀ (r : Req) (s : State), r.payload = [] → Serving s (r.frame Kind.applyStatic) →
    s.engine.mode = .idle ∨ s.engine.mode = .armed →
    ∃ o : Output,
      exec (.applyStatic r) s = .next
        (replied { s with output := o } (r.frame Kind.applyStatic) .ok []) ∧
      o = { s.output with applied := o.applied } ∧
      ∀ n : Lane, o.applied[n] =
        if (s.output.cfg n).mode = .latched then s.output.staging[n] else s.output.applied[n]

/-- A lane's pin is released, or driven at its applied level under its bank's inversion (R5). The RUNNING
and LOCK pins follow the engine state; both are deasserted in start-up and through a pack, and at the
entry into LOCKOUT and at RESET_ENGINE they are as its rule says (R74). -/
def Obligations.PinFollowsAppliedLevel : Prop :=
  (∀ s : State,
    (s.engine.runningPin = true ↔ s.engine.mode = .running ∨ s.engine.mode = .waiting ∨
      ∃ o, s.engine.mode = .held o) ∧
    (s.engine.lockPin = true ↔ s.engine.mode = .lockout) ∧
    ((runEnd .lockout s).engine.runningPin = false ∧ (runEnd .lockout s).engine.lockPin = true) ∧
    ((engineReset s).engine.runningPin = false ∧ (engineReset s).engine.lockPin = false) ∧
    (s.operating = false ∧ StartUpLaw s ∨ s.store.pack.isSome = true ∧ PackLaw s →
      s.engine.runningPin = false ∧ s.engine.lockPin = false)) ∧
  ∀ (s : State) (n : Lane),
    ((s.output.cfg n).enable = false ∨ hasLane s.checker.quarantine n = true ∨
      s.engine.mode = .lockout → s.pinLevel n = .released) ∧
    ((s.output.cfg n).enable = true → hasLane s.checker.quarantine n = false →
      s.engine.mode ≠ .lockout →
      (s.output.applied[n] = .z → s.pinLevel n = .released) ∧
      (s.output.applied[n] = .zero → s.pinLevel n = .driven (s.output.cfg n).invert) ∧
      (s.output.applied[n] = .one → s.pinLevel n = .driven (!(s.output.cfg n).invert)))

/-- READ_LANES replies the six items of each lane, the banks and the idle policy, and changes nothing
(R14, R7, R178); a lane the assembly leaves alone reads what the part drives, else 0 (R7, log 6). -/
def Obligations.ReadLanesReportsEveryLane : Prop :=
  ∀ (r : Req) (a : Assembly) (s : State), r.payload = [] → Serving s (r.frame Kind.readLanes) →
    ∃ sensed : Lane → Bool,
      (∀ n, sensed n = if hasLane a.holds n then hasLane a.levels n
        else decide (s.pinLevel n = .driven true)) ∧
      exec (.readLanes r a) s = .next
        (replied s (r.frame Kind.readLanes) .ok
          (((List.finRange 24).flatMap fun n =>
              [s.output.staging[n].code, s.output.applied[n].code, (s.pinLevel n).code,
                if sensed n then 1 else 0,
                if sensed n ≠ (s.output.cfg n).invert then 1 else 0,
                if hasLane s.checker.quarantine n then 1 else 0])
            ++ ([s.output.bankA, s.output.bankB, s.output.bankC].flatMap fun c =>
              [c.mode.code, if c.invert then 1 else 0, if c.enable then 1 else 0])
            ++ [s.output.idlePolicy.code]))

/-! ## The pattern store (02) -/

/-- Allocation is by first fit: the lowest place at which the records asked for are free, none where
there is no such place; and the two figures count free records (R21, R22). -/
def Obligations.AllocationIsFirstFit : Prop :=
  ∀ s : State, DirectoryLaw s → ExtentsApart s →
    (∀ n base, 1 ≤ n → s.store.firstFit n = some base →
      (∀ a, base ≤ a → a < base + n → RecordFree s.store a) ∧
      ∀ b, b < base → ∃ a, b ≤ a ∧ a < b + n ∧ ¬ RecordFree s.store a) ∧
    (∀ n, 1 ≤ n → s.store.firstFit n = none →
      ∀ b, ∃ a, b ≤ a ∧ a < b + n ∧ ¬ RecordFree s.store a) ∧
    (∀ n, 1 ≤ n → (n ≤ s.store.largestFree ↔
      ∃ b, ∀ a, b ≤ a → a < b + n → RecordFree s.store a)) ∧
    {a | RecordFree s.store a}.ncard = s.store.freeCount

/-- DEFINE_PATTERN: its refusals in order, and the stored pattern it makes, blank in every record (R23,
R20). -/
def Obligations.DefinePatternMakesABlankPattern : Prop :=
  ∀ (r : Req) (s : State) (id h l : Byte), r.payload = [id, h, l] →
    Serving s (r.frame Kind.definePattern) → s.engine.mode ≠ .lockout → StoreCanonical s →
    (32 ≤ id.toNat →
      exec (.definePattern r) s = .next (replied s (r.frame Kind.definePattern) .range [])) ∧
    ∀ p : PatternId, id.toNat = p.val →
      (s.store.content p ≠ .undefined →
        exec (.definePattern r) s =
          .next (replied s (r.frame Kind.definePattern) .existsAlready [])) ∧
      (s.store.content p = .undefined → num2 h l = 0 ∨ 2048 < num2 h l →
        exec (.definePattern r) s = .next (replied s (r.frame Kind.definePattern) .range [])) ∧
      (s.store.content p = .undefined → 1 ≤ num2 h l → num2 h l ≤ 2048 →
        s.store.firstFit (num2 h l) = none →
        exec (.definePattern r) s =
          .next (replied s (r.frame Kind.definePattern)
            (if num2 h l ≤ s.store.freeCount then .fragmented else .noRoom) [])) ∧
      ∀ base, s.store.content p = .undefined → 1 ≤ num2 h l → num2 h l ≤ 2048 →
        s.store.firstFit (num2 h l) = some base →
        ∃ t : Store,
          exec (.definePattern r) s = .next
            (replied { s with store := t } (r.frame Kind.definePattern) .ok
              (bytes2 base ++ bytesC (s.store.directory[p].generation + 1) ++ bytes2 t.freeCount
                ++ bytes2 t.largestFree)) ∧
          t.directory[p] = ⟨.stored (num2 h l) base, s.store.directory[p].generation + 1⟩ ∧
          (∀ q : PatternId, q ≠ p → t.directory[q] = s.store.directory[q]) ∧
          t.pack = s.store.pack ∧
          (∀ a, base ≤ a → a < base + num2 h l → t.vectors.read a = VectorRec.blank) ∧
          ∀ a, a < base ∨ base + num2 h l ≤ a → t.vectors.read a = s.store.vectors.read a

/-- DEFINE_GENERATOR: its refusals in order, and the generated pattern it makes (R24, R20). The vectors of
generated patterns: Z and X outside the mask; within it 1 or 0 by the kind, expected as driven or not
at all; no flags (R25, R26, R27, R28, R29). -/
def Obligations.GeneratedPatternsFollowTheirKind : Prop :=
  (∀ (r : Req) (s : State) (id kind m2 m1 m0 d2 d1 d0 step h l expect : Byte),
    r.payload = [id, kind, m2, m1, m0, d2, d1, d0, step, h, l, expect] →
    Serving s (r.frame Kind.defineGenerator) → s.engine.mode ≠ .lockout →
    (32 ≤ id.toNat →
      exec (.defineGenerator r) s = .next (replied s (r.frame Kind.defineGenerator) .range [])) ∧
    ∀ p : PatternId, id.toNat = p.val →
      (s.store.content p ≠ .undefined →
        exec (.defineGenerator r) s =
          .next (replied s (r.frame Kind.defineGenerator) .existsAlready [])) ∧
      (s.store.content p = .undefined →
        GenKind.ofByte? kind = none ∨ laneSet3 m2 m1 m0 = 0 ∨ 23 < step.toNat ∨ num2 h l = 0 ∨
          1024 < num2 h l ∨ ExpectMode.ofByte? expect = none →
        exec (.defineGenerator r) s =
          .next (replied s (r.frame Kind.defineGenerator) .range [])) ∧
      ∀ k x, s.store.content p = .undefined → GenKind.ofByte? kind = some k →
        ExpectMode.ofByte? expect = some x → laneSet3 m2 m1 m0 ≠ 0 → step.toNat ≤ 23 →
        1 ≤ num2 h l → num2 h l ≤ 1024 →
        exec (.defineGenerator r) s = .next
          (replied
            { s with store :=
              { s.store with
                directory := s.store.directory.set p.val
                  ⟨.generated (num2 h l) ⟨k, laneSet3 m2 m1 m0, laneSet3 d2 d1 d0,
                    step.toNat, x⟩,
                    s.store.directory[p].generation + 1⟩ } }
            (r.frame Kind.defineGenerator) .ok
            (bytesC (s.store.directory[p].generation + 1)))) ∧
  ∀ (g : Generator) (i : Nat),
    let k := laneCount g.mask
    let rank (n : Lane) : Nat := ((List.finRange 24).filter fun m => hasLane g.mask m ∧ m < n).length
    let seed (n : Lane) : Bool := hasLane g.mask n && hasLane g.seed n
    ∃ one : Lane → Bool,
      (g.kind = .walkOne → ∀ n, one n = decide (rank n = i % k)) ∧
      (g.kind = .walkZero → ∀ n, one n = decide (rank n ≠ i % k)) ∧
      (g.kind = .rotate → ∀ n, one n = true ↔
        ∃ m : Lane, seed m = true ∧ n.val = (m.val + (i * g.step) % 24) % 24) ∧
      (g.kind = .count → ∃ start : Nat, start < 2 ^ k ∧
        (∀ n, hasLane g.mask n = true → start.testBit (rank n) = seed n) ∧
        ∀ n, one n = ((start + i * g.step) % 2 ^ k).testBit (rank n)) ∧
      (g.kind = .alternate → ∀ n, one n = if i % 2 = 0 then seed n else !seed n) ∧
      (∀ n : Lane, (g.vector i).drive[n] =
        if hasLane g.mask n then (if one n then Drive.d1 else .d0) else .z) ∧
      (∀ n : Lane, (g.vector i).expect[n] =
        if hasLane g.mask n ∧ g.expect = .matchDrive then (if one n then Expect.e1 else .e0)
        else .x) ∧
      (g.vector i).wait = false ∧ (g.vector i).mark = false ∧ (g.vector i).nocheck = false

/-- WRITE_VECTORS: its refusals in order, and what every record of the store reads as after it (R31,
R20). A vector record written in its 13 bytes reads back as itself (R178). -/
def Obligations.WriteVectorsReplacesRecords : Prop :=
  (∀ (r : Req) (s : State) (id h l count : Byte) (body : List Byte),
    r.payload = id :: h :: l :: count :: body → body.length = 13 * count.toNat →
    Serving s (r.frame Kind.writeVectors) → s.engine.mode ≠ .lockout → StoreCanonical s →
    (32 ≤ id.toNat ∨ count.toNat = 0 ∨ 16 < count.toNat →
      exec (.writeVectors r) s = .next (replied s (r.frame Kind.writeVectors) .range [])) ∧
    ∀ p : PatternId, id.toNat = p.val → 1 ≤ count.toNat → count.toNat ≤ 16 →
      (s.store.content p = .undefined →
        exec (.writeVectors r) s = .next (replied s (r.frame Kind.writeVectors) .notDefined [])) ∧
      (∀ n g, s.store.content p = .generated n g →
        exec (.writeVectors r) s = .next (replied s (r.frame Kind.writeVectors) .kind [])) ∧
      ∀ n base, s.store.content p = .stored n base →
        (n < num2 h l + count.toNat →
          exec (.writeVectors r) s = .next (replied s (r.frame Kind.writeVectors) .range [])) ∧
        (num2 h l + count.toNat ≤ n →
          (∃ x ∈ pieces 13 count.toNat body, illFormedRecord x = true) →
          exec (.writeVectors r) s = .next (replied s (r.frame Kind.writeVectors) .range [])) ∧
        ∀ vs : List VectorRec, num2 h l + count.toNat ≤ n → vs.length = count.toNat →
          body = vs.flatMap VectorRec.bytes →
          (s.runReferenced p = true →
            exec (.writeVectors r) s = .next (replied s (r.frame Kind.writeVectors) .inUse [])) ∧
          (s.runReferenced p = false →
            ∃ m : Memory,
              exec (.writeVectors r) s = .next
                (replied
                  { s with store :=
                    { s.store with
                      vectors := m
                      directory := s.store.directory.set p.val
                        ⟨.stored n base, s.store.directory[p].generation + 1⟩ } }
                  (r.frame Kind.writeVectors) .ok
                  (bytesC (s.store.directory[p].generation + 1))) ∧
              m.wf ∧
              (∀ (j : Nat) (v : VectorRec), vs[j]? = some v → m.read (base + num2 h l + j) = v) ∧
              ∀ a, a < base + num2 h l ∨ base + num2 h l + count.toNat ≤ a →
                m.read a = s.store.vectors.read a)) ∧
  ∀ v : VectorRec, v.bytes.length = 13 ∧ VectorRec.ofBytes? v.bytes = some v

/-- READ_VECTORS and LIST_PATTERNS reply what they read and change nothing (R32, R34, R35, R178). That
READ_VECTORS' reply holds the number of records in a byte before them is the model's reading of R177's
lists (log 9). -/
def Obligations.StoreIsReadBack : Prop :=
  (∀ (r : Req) (s : State) (id h l count : Byte), r.payload = [id, h, l, count] →
    Serving s (r.frame Kind.readVectors) →
    (32 ≤ id.toNat ∨ count.toNat = 0 ∨ 16 < count.toNat →
      exec (.readVectors r) s = .next (replied s (r.frame Kind.readVectors) .range [])) ∧
    ∀ p : PatternId, id.toNat = p.val → 1 ≤ count.toNat → count.toNat ≤ 16 →
      (s.store.content p = .undefined →
        exec (.readVectors r) s = .next (replied s (r.frame Kind.readVectors) .notDefined [])) ∧
      (s.store.content p ≠ .undefined →
        (s.store.content p).length < num2 h l + count.toNat →
        exec (.readVectors r) s = .next (replied s (r.frame Kind.readVectors) .range [])) ∧
      (∀ n base, s.store.content p = .stored n base → num2 h l + count.toNat ≤ n →
        exec (.readVectors r) s = .next
          (replied s (r.frame Kind.readVectors) .ok
            ([1] ++ bytesC s.store.directory[p].generation ++ [count]
              ++ (List.range count.toNat).flatMap fun j =>
                (s.store.vectors.read (base + (num2 h l + j))).bytes))) ∧
      ∀ n g, s.store.content p = .generated n g → num2 h l + count.toNat ≤ n →
        exec (.readVectors r) s = .next
          (replied s (r.frame Kind.readVectors) .ok
            ([2] ++ bytesC s.store.directory[p].generation ++ [count]
              ++ (List.range count.toNat).flatMap fun j => (g.vector (num2 h l + j)).bytes))) ∧
  ∀ (r : Req) (s : State), r.payload = [] → Serving s (r.frame Kind.listPatterns) →
    DirectoryLaw s →
    ∃ figures : List Byte, figures = bytes2 s.store.freeCount ++ bytes2 s.store.largestFree ∧
      exec (.listPatterns r) s = .next
        (replied s (r.frame Kind.listPatterns) .ok
          (((List.finRange 32).flatMap fun p =>
            bytesOf 3 (match s.store.content p with
              | .undefined => 0
              | .stored n base => 1 * 2 ^ 22 + (n - 1) * 2 ^ 11 + base
              | .generated n _ => 2 * 2 ^ 22 + (n - 1) * 2 ^ 11)
            ++ bytesC s.store.directory[p].generation) ++ figures))

/-- DELETE_PATTERN: its refusals in order, and the entry it clears, no record changed (R33, R19, R20); and
what names a pattern, and what run-references it (R30). -/
def Obligations.DeletePatternSparesNamedPatterns : Prop :=
  (∀ (r : Req) (s : State) (id : Byte), r.payload = [id] →
    Serving s (r.frame Kind.deletePattern) → s.engine.mode ≠ .lockout →
    (32 ≤ id.toNat →
      exec (.deletePattern r) s = .next (replied s (r.frame Kind.deletePattern) .range [])) ∧
    ∀ p : PatternId, id.toNat = p.val →
      (s.store.content p = .undefined →
        exec (.deletePattern r) s = .next (replied s (r.frame Kind.deletePattern) .notDefined [])) ∧
      (s.store.content p ≠ .undefined → s.isNamed p = true →
        exec (.deletePattern r) s = .next (replied s (r.frame Kind.deletePattern) .inUse [])) ∧
      (s.store.content p ≠ .undefined → s.isNamed p = false →
        ∃ t : Store,
          t = { s.store with
            directory := s.store.directory.set p.val
              ⟨.undefined, s.store.directory[p].generation + 1⟩ } ∧
          exec (.deletePattern r) s = .next
            (replied { s with store := t } (r.frame Kind.deletePattern) .ok
              (bytesC (s.store.directory[p].generation + 1) ++ bytes2 t.freeCount
                ++ bytes2 t.largestFree)))) ∧
  ∀ (s : State) (p : PatternId),
    let runNamed : Prop :=
      (∃ i : SlotIndex, i.val < s.rotation.active.count ∧ s.rotation.active.slots[i].pattern = p) ∨
      (∃ f, s.engine.live = some f ∧ f.pattern = p) ∨
      (∃ g ∈ s.engine.stack, g.frame.pattern = p) ∨
      (∃ x, s.engine.pendingSplice = some x ∧ x.pattern = p) ∨
      (∃ x : Splice, s.trigger.trgA.action = .splice x ∧ x.pattern = p) ∨
      ∃ x : Splice, s.trigger.trgB.action = .splice x ∧ x.pattern = p
    (s.isNamed p = true ↔ runNamed ∨
      ∃ i : SlotIndex, i.val < s.rotation.pendingRot.count ∧
        s.rotation.pendingRot.slots[i].pattern = p) ∧
    (s.runReferenced p = true ↔
      (s.engine.mode = .running ∨ s.engine.mode = .waiting ∨ ∃ o, s.engine.mode = .held o) ∧
        runNamed)

/-- A pack carried out: PACK_STORE completes at once where no pattern moves, and begins, taking 4 ticks
a record, where one does; the records moved are those of the patterns whose base changes. A pack that
completes leaves every pattern as it was but for its base, the free records one run at the top, and the
reply placed (R36, R37). That the whole move is made at PACK_COMPLETE, and at any time left of the pack,
is the model's choice (logs 3, 17); without a pack the row does not occur (log 2). -/
def Obligations.PackKeepsEveryPattern : Prop :=
  ∀ s : State, Lawful s →
    let moved (t : Store) : Nat := ((List.finRange 32).map fun p : PatternId =>
      if (t.content p).base ≠ (s.store.content p).base then (s.store.content p).records else 0).sum
    let packed (f : LinkFrame) (t : State) : Prop :=
      t = { s with
        store := { t.store with pack := none }
        link := s.link.answer f
          ⟨.ok, bytes2 (moved t.store) ++ bytes2 t.store.freeCount ++ bytes2 t.store.freeCount⟩ } ∧
      t.store.vectors.wf ∧
      (∀ p : PatternId, t.store.directory[p].generation = s.store.directory[p].generation ∧
        (t.store.content p).base ≤ (s.store.content p).base ∧
        match s.store.content p with
        | .stored n _ => t.store.content p = .stored n (t.store.content p).base
        | .undefined => t.store.content p = .undefined
        | .generated n g => t.store.content p = .generated n g) ∧
      (∀ (p : PatternId) (i : Nat), i < (s.store.content p).length →
        t.store.vector p i = s.store.vector p i) ∧
      t.store.freeCount = s.store.freeCount ∧
      ∀ a, RecordFree t.store a ↔ 2048 - t.store.freeCount ≤ a ∧ a < 2048
    (∀ r : Req, r.payload = [] → Serving s (r.frame Kind.packStore) → s.engine.mode = .idle →
      (movedRecords s.store.packPlan = 0 →
        ∃ t, exec (.packStore r) s = .next t ∧ packed (r.frame Kind.packStore) t) ∧
      (0 < movedRecords s.store.packPlan →
        exec (.packStore r) s = .next
          { s with store := { s.store with
            pack := some ⟨s.store.packPlan, 4 * movedRecords s.store.packPlan⟩ } })) ∧
    movedRecords s.store.packPlan = moved (s.store.packed s.store.packPlan) ∧
    (∀ k f rest, s.store.pack = some k → s.link.requests = f :: rest →
      ∃ t, exec .packComplete s = .next t ∧ packed f t) ∧
    (s.store.pack = none → exec .packComplete s = .next s)

/-! ## Timing (03) -/

/-- A conversion rounds the quotient by the prescaled tick in the mode given, and is inexact exactly where
there is a remainder (R42). -/
def Obligations.ConversionRoundsTheQuotient : Prop :=
  ∀ p ns q r : Nat, 0 < p → ns = q * (20 * p) + r → r < 20 * p →
    (inexactNs ns p = true ↔ r ≠ 0) ∧
    (r = 0 → ∀ mode, convertNs mode ns p = q) ∧
    (r ≠ 0 → convertNs .down ns p = q ∧ convertNs .up ns p = q + 1 ∧
      (2 * r < 20 * p → convertNs .nearest ns p = q) ∧
      (20 * p < 2 * r → convertNs .nearest ns p = q + 1) ∧
      (2 * r = 20 * p → convertNs .nearest ns p = q + q % 2))

/-- SET_TIMING writes one timing set, or is refused; READ_TIMING returns one (R41, R45, R46). That an INEXACT
refusal carries all six values of the OK reply is the model's reading (log 21). The prescale
is the smallest at which the period fits; the strobe is converted with it and must lie below the
period; and the periods accepted are those of R43's table (R43, R44). -/
def Obligations.TimingSetsAreConvertedWrittenAndRead : Prop :=
  ((∀ (r : Req) (s : State) (set p3 p2 p1 p0 q3 q2 q1 q0 mode strict : Byte),
    r.payload = [set, p3, p2, p1, p0, q3, q2, q1, q0, mode, strict] →
    Serving s (r.frame Kind.setTiming) → s.engine.mode ≠ .lockout →
    (4 ≤ set.toNat ∨ 3 ≤ mode.toNat ∨ num4 p3 p2 p1 p0 = 0 ∨ num4 q3 q2 q1 q0 = 0 →
      exec (.setTiming r) s = .next (replied s (r.frame Kind.setTiming) .range [])) ∧
    ∀ (i : TimingId) (m : Rounding), set.toNat = i.val → Rounding.ofByte? mode = some m →
      1 ≤ num4 p3 p2 p1 p0 → 1 ≤ num4 q3 q2 q1 q0 →
      (convertTiming m (num4 p3 p2 p1 p0) (num4 q3 q2 q1 q0) = none →
        exec (.setTiming r) s = .next (replied s (r.frame Kind.setTiming) .range [])) ∧
      ∀ t, convertTiming m (num4 p3 p2 p1 p0) (num4 q3 q2 q1 q0) = some t →
        ∃ results : List Byte,
          results = byte t.prescale ++ bytes2 t.period ++ bytes2 t.strobe
            ++ bytes4 (t.period * (20 * t.prescale)) ++ bytes4 (t.strobe * (20 * t.prescale))
            ++ [if t.inexact then 1 else 0] ∧
          (t.inexact = true → strict ≠ 0 →
            exec (.setTiming r) s =
              .next (replied s (r.frame Kind.setTiming) .inexact results)) ∧
          (t.inexact = false ∨ strict = 0 →
            exec (.setTiming r) s = .next
              (replied { s with timing := { s.timing with sets := s.timing.sets.set i.val t } }
                (r.frame Kind.setTiming) .ok results))) ∧
  ∀ (r : Req) (s : State) (set : Byte), r.payload = [set] →
    Serving s (r.frame Kind.readTiming) → s.engine.mode ≠ .lockout →
    (4 ≤ set.toNat →
      exec (.readTiming r) s = .next (replied s (r.frame Kind.readTiming) .range [])) ∧
    ∀ (i : TimingId) (t : TimingSet), set.toNat = i.val → s.timing.sets[i] = t →
      exec (.readTiming r) s = .next
        (replied s (r.frame Kind.readTiming) .ok
          (byte t.prescale ++ bytes2 t.period ++ bytes2 t.strobe ++ bytes4 t.requestedPeriod
            ++ bytes4 t.requestedStrobe ++ [if t.inexact then 1 else 0]
            ++ bytes4 (t.period * (20 * t.prescale)) ++ bytes4 (t.strobe * (20 * t.prescale))))) ∧
  ∀ (mode : Rounding) (periodNs strobeNs : Nat),
    (∀ t, convertTiming mode periodNs strobeNs = some t ↔
      t.prescale ∈ [1, 2, 4, 8, 16, 32, 64, 128] ∧
      (∀ p ∈ [1, 2, 4, 8, 16, 32, 64, 128], p < t.prescale →
        65535 < convertNs mode periodNs p) ∧
      t.period = convertNs mode periodNs t.prescale ∧ 2 ≤ t.period ∧ t.period ≤ 65535 ∧
      t.strobe = convertNs mode strobeNs t.prescale ∧ 1 ≤ t.strobe ∧ t.strobe < t.period ∧
      t.requestedPeriod = periodNs ∧ t.requestedStrobe = strobeNs ∧
      t.inexact = (inexactNs periodNs t.prescale || inexactNs strobeNs t.prescale)) ∧
    ((∃ strobe t, convertTiming mode periodNs strobe = some t) ↔
      match mode with
      | .nearest => 30 ≤ periodNs ∧ periodNs ≤ 167770879
      | .down => 40 ≤ periodNs ∧ periodNs ≤ 167772159
      | .up => 21 ≤ periodNs ∧ periodNs ≤ 167769600)

/-! ## Rotations (04) -/

/-- EDIT_SLOT: its checks in order, and the one pending slot record it writes (R61). SET_SLOT_COUNT: its
checks in order, and the pending slot count it writes, the records kept (R62). -/
def Obligations.PendingRotationIsEdited : Prop :=
  (∀ (r : Req) (s : State) (index pattern dwell direction timing : Byte),
    r.payload = [index, pattern, dwell, direction, timing] → Serving s (r.frame Kind.editSlot) →
    (s.engine.mode = .lockout →
      exec (.editSlot r) s = .next (replied s (r.frame Kind.editSlot) .locked [])) ∧
    (s.engine.mode ≠ .lockout → s.rotation.swapWaiting = true →
      exec (.editSlot r) s = .next (replied s (r.frame Kind.editSlot) .swapWaiting [])) ∧
    (s.engine.mode ≠ .lockout → s.rotation.swapWaiting = false →
      15 < index.toNat ∨ 31 < pattern.toNat ∨ dwell.toNat = 0 ∨ 2 < direction.toNat ∨
        3 < timing.toNat →
      exec (.editSlot r) s = .next (replied s (r.frame Kind.editSlot) .range [])) ∧
    ∀ (i : SlotIndex) (p : PatternId) (d : Direction) (t : TimingId),
      s.engine.mode ≠ .lockout → s.rotation.swapWaiting = false → index.toNat = i.val →
      pattern.toNat = p.val → 1 ≤ dwell.toNat → direction = d.code → timing.toNat = t.val →
      exec (.editSlot r) s = .next
        (replied
          { s with rotation :=
            { s.rotation with pendingRot :=
              { s.rotation.pendingRot with slots :=
                s.rotation.pendingRot.slots.set i.val ⟨p, dwell.toNat, d, t⟩ } } }
          (r.frame Kind.editSlot) .ok [])) ∧
  ∀ (r : Req) (s : State) (count : Byte), r.payload = [count] →
    Serving s (r.frame Kind.setSlotCount) →
    (s.engine.mode = .lockout →
      exec (.setSlotCount r) s = .next (replied s (r.frame Kind.setSlotCount) .locked [])) ∧
    (s.engine.mode ≠ .lockout → s.rotation.swapWaiting = true →
      exec (.setSlotCount r) s = .next (replied s (r.frame Kind.setSlotCount) .swapWaiting [])) ∧
    (s.engine.mode ≠ .lockout → s.rotation.swapWaiting = false → 16 < count.toNat →
      exec (.setSlotCount r) s = .next (replied s (r.frame Kind.setSlotCount) .range [])) ∧
    (s.engine.mode ≠ .lockout → s.rotation.swapWaiting = false → count.toNat ≤ 16 →
      exec (.setSlotCount r) s = .next
        (replied
          { s with rotation :=
            { s.rotation with pendingRot :=
              { s.rotation.pendingRot with count := count.toNat } } }
          (r.frame Kind.setSlotCount) .ok []))

/-- COMMIT_ROTATION: its refusals in order, each with the lowest offending slot; the swap made at once,
with its SWAP_DONE notice, or left waiting in a live rotation run (R64, R65, R66). WITHDRAW_COMMIT: its
checks in order; the waiting swap is cancelled and nothing else changes (R70). -/
def Obligations.CommitSwapsOrWaitsAndIsWithdrawn : Prop :=
  (∀ (r : Req) (s : State), r.payload = [] → Serving s (r.frame Kind.commitRotation) →
    s.engine.mode ≠ .lockout →
    let bad (st : Status) (results : List Byte) : Prop :=
      exec (.commitRotation r) s = .next (replied s (r.frame Kind.commitRotation) st results)
    let slot (i : SlotIndex) : Slot := s.rotation.pendingRot.slots[i]
    let used (i : SlotIndex) : Prop := i.val < s.rotation.pendingRot.count
    let undef (i : SlotIndex) : Prop := s.store.content (slot i).pattern = .undefined
    (s.rotation.swapWaiting = true → bad .swapWaiting []) ∧
    (s.rotation.swapWaiting = false → s.rotation.pendingRot.count = 0 → bad .empty []) ∧
    (∀ i, s.rotation.swapWaiting = false → used i → (slot i).dwell = 0 →
      (∀ j, j < i → (slot j).dwell ≠ 0) → bad .range (byte i.val)) ∧
    (∀ i, s.rotation.swapWaiting = false → (∀ j, used j → (slot j).dwell ≠ 0) → used i →
      undef i → (∀ j, j < i → ¬ undef j) → bad .notDefined (byte i.val)) ∧
    (s.rotation.swapWaiting = false → 0 < s.rotation.pendingRot.count →
      (∀ j, used j → (slot j).dwell ≠ 0 ∧ ¬ undef j) →
      (s.engine.rotationLive = true →
        exec (.commitRotation r) s = .next
          (replied { s with rotation := { s.rotation with swapWaiting := true } }
            (r.frame Kind.commitRotation) .ok ([1] ++ bytesC s.rotation.version))) ∧
      (s.engine.rotationLive = false →
        exec (.commitRotation r) s = .next
          (replied
            { s with
              rotation :=
                { active := s.rotation.pendingRot
                  pendingRot := s.rotation.pendingRot
                  version := s.rotation.version + 1
                  swapWaiting := false }
              link := s.link.notice .swapDone
                (bytesC (s.rotation.version + 1) ++ byte s.rotation.pendingRot.count ++ [0]) }
            (r.frame Kind.commitRotation) .ok ([0] ++ bytesC (s.rotation.version + 1)))))) ∧
  ∀ (r : Req) (s : State), r.payload = [] → Serving s (r.frame Kind.withdrawCommit) →
    (s.engine.mode = .lockout →
      exec (.withdrawCommit r) s = .next (replied s (r.frame Kind.withdrawCommit) .locked [])) ∧
    (s.engine.mode ≠ .lockout → s.rotation.swapWaiting = false →
      exec (.withdrawCommit r) s =
        .next (replied s (r.frame Kind.withdrawCommit) .notWaiting [])) ∧
    (s.engine.mode ≠ .lockout → s.rotation.swapWaiting = true →
      exec (.withdrawCommit r) s = .next
        (replied { s with rotation := { s.rotation with swapWaiting := false } }
          (r.frame Kind.withdrawCommit) .ok []))

/-- The positions of a pass by direction, the first of them, the position `k` entries on, and the
positions that are suited (R59). -/
def Obligations.PassesVisitPositionsInOrder : Prop :=
  (∀ n i, (passPositions .forward n)[i]? = if i < n then some ⟨i, .ascending⟩ else none) ∧
  (∀ n i, (passPositions .reverse n)[i]? =
    if i < n then some ⟨n - 1 - i, .descending⟩ else none) ∧
  (∀ n i, 2 ≤ n → (passPositions .pingpong n)[i]? =
    if i < n then some ⟨i, .ascending⟩
    else if i < 2 * n - 2 then some ⟨2 * n - 2 - i, .descending⟩ else none) ∧
  passPositions .pingpong 1 = [⟨0, .ascending⟩] ∧
  (∀ n, 1 ≤ n → firstPosition .forward n = ⟨0, .ascending⟩ ∧
    firstPosition .reverse n = ⟨n - 1, .descending⟩ ∧
    firstPosition .pingpong n = ⟨0, .ascending⟩) ∧
  (∀ d n i k p, (passPositions d n)[i]? = some p →
    positionAfter d n p k = (passPositions d n)[i + k]?) ∧
  ∀ d n p, suited d n p = false ↔
    n ≤ p.index ∨ (d = .forward ∧ p.phase = .descending) ∨
      (d = .reverse ∧ p.phase = .ascending) ∨
      (d = .pingpong ∧ p.phase = .descending ∧ (p.index = 0 ∨ p.index = n - 1))

/-! ## The run (05) -/

/-- ARM: its refusals in order, the options written, the engine ARMED (R76). DISARM: its checks in order;
an ARMED engine becomes IDLE and nothing else changes (R77). -/
def Obligations.ArmAndDisarm : Prop :=
  (∀ (r : Req) (s : State) (mode stopOnFail h l clear : Byte),
    r.payload = [mode, stopOnFail, h, l, clear] → Serving s (r.frame Kind.arm) →
    s.engine.mode = .idle ∨ s.engine.mode = .armed →
    (RunMode.ofByte? mode = none →
      exec (.arm r) s = .next (replied s (r.frame Kind.arm) .range [])) ∧
    ∀ m, RunMode.ofByte? mode = some m →
      (s.rotation.active.count = 0 →
        exec (.arm r) s = .next (replied s (r.frame Kind.arm) .empty [])) ∧
      (0 < s.rotation.active.count →
        exec (.arm r) s = .next
          (replied
            { s with engine :=
              { s.engine with
                mode := .armed
                options := ⟨m, stopOnFail.toNat, num2 h l, decide (clear ≠ 0)⟩ } }
            (r.frame Kind.arm) .ok []))) ∧
  ∀ (r : Req) (s : State), r.payload = [] → Serving s (r.frame Kind.disarm) →
    (s.engine.mode = .lockout →
      exec (.disarm r) s = .next (replied s (r.frame Kind.disarm) .locked [])) ∧
    (s.engine.mode ≠ .lockout → s.engine.mode ≠ .armed →
      exec (.disarm r) s = .next (replied s (r.frame Kind.disarm) .state [])) ∧
    (s.engine.mode = .armed →
      exec (.disarm r) s = .next
        (replied { s with engine := { s.engine with mode := .idle } } (r.frame Kind.disarm) .ok []))

/-- A step start fetches, keeps and stages the vector; it waits where the vector says so and no release
is latched, and else starts the pacer with the live frame's timing set and makes a flagged MARK; a
waiting step starts without a second fetch (R85, R53, R47). -/
def Obligations.StepStartStagesAndStartsOrWaits : Prop :=
  ∀ (s : State) (f : RunFrame) (v : VectorRec), s.engine.live = some f →
    let starts (u : State) : State :=
      let t : State :=
        { u with
          output := u.output.latchedCopy
          timing :=
            { u.timing with
              waitTimer := ⟨false, 0⟩
              pacer := some ⟨u.timing.sets[f.timing].prescale, u.timing.sets[f.timing].period,
                u.timing.sets[f.timing].strobe, 0, 0⟩ }
          engine :=
            { u.engine with
              mode := .running
              stepRecord := some v
              releaseLatch := u.engine.releaseLatch && !v.wait } }
      if v.mark then
        { t with
          link := t.link.notice .mark
            (bytesC u.engine.stepCounter ++ byte u.engine.stack.length ++ byte f.pattern.val
              ++ bytes2 f.pos.index ++ byte u.engine.baseSlot.val) }
      else t
    (s.store.vector f.pattern f.pos.index = v → v.wait = true → s.engine.releaseLatch = false →
      stepStart s =
        { s with
          output := s.output.stage v.drive
          timing :=
            { s.timing with
              pacer := none
              waitTimer := ⟨decide (s.engine.options.waitTimeout ≠ 0),
                s.engine.options.waitTimeout * 50000⟩ }
          engine := { s.engine with mode := .waiting, stepRecord := some v } }) ∧
    (s.store.vector f.pattern f.pos.index = v → v.wait = false ∨ s.engine.releaseLatch = true →
      stepStart s = starts { s with output := s.output.stage v.drive }) ∧
    (s.engine.stepRecord = some v → startWaitingStep s = starts s)

/-- START, and a START edge in ARMED: the run start's changes, then the first step start (R78, R79, R60,
R163). -/
def Obligations.StartBeginsARotationRun : Prop :=
  let begun (s : State) : State :=
    { s with
      engine :=
        { s.engine with
          mode := .running
          runKind := .rotation
          verdict := .none
          quarantineInRun := false
          continuityFail := false
          pendingStop := .none
          releaseLatch := false
          advanceLatch := false
          stepCounter := 0
          stack := []
          live := some
            { pattern := s.rotation.active.slots[(0 : SlotIndex)].pattern
              pos := firstPosition s.rotation.active.slots[(0 : SlotIndex)].direction
                (s.store.content s.rotation.active.slots[(0 : SlotIndex)].pattern).length
              timing := s.rotation.active.slots[(0 : SlotIndex)].timing
              base := some ⟨0, s.rotation.active.slots[(0 : SlotIndex)].dwell⟩ } }
      checker :=
        if s.engine.options.clearAtStart then
          { s.checker with
            failingSteps := 0
            firstFailNotified := false
            mismatchCounts := Vector.replicate 24 0
            failLog := []
            logOverflow := false }
        else { s.checker with failingSteps := 0, firstFailNotified := false } }
  (∀ (r : Req) (s : State), r.payload = [] → Serving s (r.frame Kind.start) →
    s.engine.mode = .armed →
    exec (.start r) s = .next (replied (stepStart (begun s)) (r.frame Kind.start) .ok [])) ∧
  ∀ (input : TrigInput) (s : State), Edge s input .start →
    (s.engine.mode = .armed →
      exec (.startTrigger input) s = .next (stepStart (begun (s.levelChanged input)))) ∧
    (s.engine.mode ≠ .armed → exec (.startTrigger input) s = .next (s.levelChanged input))

/-- The run end in its order: pacer and wait stopped, the idle policy, the frames gone, a waiting swap
with its notice, the cause and the verdict, RUN_END, and IDLE or LOCKOUT (R94, R69, R95, R96, R10). -/
def Obligations.RunEndIsOneEvent : Prop :=
  (∀ (c : StopCause) (s : State),
    let failed : Prop := 0 < s.checker.failingSteps ∨ s.engine.quarantineInRun = true ∨
      s.engine.continuityFail = true
    ∃ verdict : Verdict,
      (failed → verdict = .fail) ∧ (¬ failed → c = .complete → verdict = .pass) ∧
      (¬ failed → c ≠ .complete → verdict = .incomplete) ∧
      runEnd c s =
        { s with
          timing := { s.timing with pacer := none, waitTimer := ⟨false, 0⟩ }
          output :=
            if c = .lockout ∨ c = .engineReset then s.output else s.output.applyIdle
          rotation :=
            if s.rotation.swapWaiting then
              { active := s.rotation.pendingRot
                pendingRot := s.rotation.pendingRot
                version := s.rotation.version + 1
                swapWaiting := false }
            else s.rotation
          engine :=
            { s.engine with
              mode := if c = .lockout then .lockout else .idle
              live := none
              stack := []
              pendingSplice := none
              stepRecord := none
              releaseLatch := false
              advanceLatch := false
              pendingStop := .none
              lastStop := c
              verdict := verdict }
          survey := { s.survey with position := none }
          link :=
            (if s.rotation.swapWaiting then
              s.link.notice .swapDone
                (bytesC (s.rotation.version + 1) ++ byte s.rotation.pendingRot.count ++ [2])
            else s.link).notice .runEnd
              ([c.code, verdict.code, s.engine.runKind.code] ++ bytesC s.engine.stepCounter
                ++ bytes2 s.checker.failingSteps) }) ∧
  ∀ (o : Output) (n : Lane),
    o.applyIdle = { o with staging := o.applyIdle.staging, applied := o.applyIdle.applied } ∧
    (o.idlePolicy = .retain →
      o.applyIdle.staging[n] = o.applied[n] ∧ o.applyIdle.applied[n] = o.applied[n]) ∧
    (o.idlePolicy = .low → o.applyIdle.staging[n] = .zero ∧ o.applyIdle.applied[n] = .zero) ∧
    (o.idlePolicy = .high → o.applyIdle.staging[n] = .one ∧ o.applyIdle.applied[n] = .one) ∧
    (o.idlePolicy = .release → o.applyIdle.staging[n] = .z ∧ o.applyIdle.applied[n] = .z)

/-- STOP, a STOP edge and WAIT_TIMEOUT: the run end with its cause, or an ARMED engine disarmed (R93,
R91, R54, R163). Where the remaining time of a running timer has not come to 0 in WAITING, WAIT_TIMEOUT
does not occur (log 2). -/
def Obligations.StopAndTimeoutEndTheRun : Prop :=
  (∀ (r : Req) (s : State), r.payload = [] → Serving s (r.frame Kind.stop) →
    (s.engine.mode = .armed → exec (.stop r) s = .next
      (replied { s with engine := { s.engine with mode := .idle } } (r.frame Kind.stop) .ok [])) ∧
    (s.engine.mode.isLive = true → exec (.stop r) s = .next
      (replied (runEnd .hostStop s) (r.frame Kind.stop) .ok []))) ∧
  (∀ (input : TrigInput) (s : State), Edge s input .stop →
    (s.engine.mode = .armed → exec (.stopTrigger input) s = .next
      { s.levelChanged input with engine := { s.engine with mode := .idle } }) ∧
    (s.engine.mode.isLive = true →
      exec (.stopTrigger input) s = .next (runEnd .triggerStop (s.levelChanged input))) ∧
    (s.engine.mode = .idle ∨ s.engine.mode = .lockout →
      exec (.stopTrigger input) s = .next (s.levelChanged input))) ∧
  ∀ s : State,
    (s.engine.mode = .waiting → s.timing.waitTimer = ⟨true, 0⟩ →
      exec .waitTimeout s = .next (runEnd .waitTimeout s)) ∧
    (s.engine.mode ≠ .waiting ∨ s.timing.waitTimer ≠ ⟨true, 0⟩ →
      exec .waitTimeout s = .next s)

/-- HOLD freezes a live run, and CONTINUE returns it to its held origin (R89, R90). -/
def Obligations.HoldAndContinue : Prop :=
  (∀ (r : Req) (s : State), r.payload = [] → Serving s (r.frame Kind.hold) →
    (s.engine.mode = .running → exec (.hold r) s = .next
      (replied { s with engine := { s.engine with mode := .held .running } }
        (r.frame Kind.hold) .ok [])) ∧
    (s.engine.mode = .waiting → exec (.hold r) s = .next
      (replied { s with engine := { s.engine with mode := .held .waiting } }
        (r.frame Kind.hold) .ok []))) ∧
  ∀ (r : Req) (s : State), r.payload = [] → Serving s (r.frame Kind.continueRun) →
    (s.engine.mode = .held .running → exec (.continueRun r) s = .next
      (replied { s with engine := { s.engine with mode := .running } }
        (r.frame Kind.continueRun) .ok [])) ∧
    (s.engine.mode = .held .waiting → s.engine.releaseLatch = false →
      exec (.continueRun r) s = .next
        (replied { s with engine := { s.engine with mode := .waiting } }
          (r.frame Kind.continueRun) .ok [])) ∧
    (s.engine.mode = .held .waiting → s.engine.releaseLatch = true →
      exec (.continueRun r) s = .next
        (replied (startWaitingStep s) (r.frame Kind.continueRun) .ok [])) ∧
    (s.engine.mode = .held .boundary → exec (.continueRun r) s = .next
      (replied (stepStart { s with engine := { s.engine with mode := .running } })
        (r.frame Kind.continueRun) .ok []))

/-- RELEASE starts the waiting step or is latched in HELD, ADVANCE is latched, and so are the actions of
their edges; elsewhere the actions are ignored (R88, R83, R163). -/
def Obligations.ReleaseAndAdvance : Prop :=
  (∀ (r : Req) (s : State), r.payload = [] → Serving s (r.frame Kind.release) →
    s.engine.runKind = .rotation →
    (s.engine.mode = .waiting → exec (.release r) s = .next
      (replied (startWaitingStep s) (r.frame Kind.release) .ok [])) ∧
    (∀ o, s.engine.mode = .held o → exec (.release r) s = .next
      (replied { s with engine := { s.engine with releaseLatch := true } }
        (r.frame Kind.release) .ok []))) ∧
  (∀ (r : Req) (s : State), r.payload = [] → Serving s (r.frame Kind.advance) →
    s.engine.rotationLive = true → exec (.advance r) s = .next
      (replied { s with engine := { s.engine with advanceLatch := true } }
        (r.frame Kind.advance) .ok [])) ∧
  (∀ (input : TrigInput) (s : State), Edge s input .release →
    (s.engine.runKind = .rotation → s.engine.mode = .waiting →
      exec (.releaseTrigger input) s = .next (startWaitingStep (s.levelChanged input))) ∧
    (∀ o, s.engine.runKind = .rotation → s.engine.mode = .held o →
      exec (.releaseTrigger input) s = .next
        { s.levelChanged input with engine := { s.engine with releaseLatch := true } }) ∧
    (s.engine.rotationLive = false ∨ s.engine.mode = .running →
      exec (.releaseTrigger input) s = .next (s.levelChanged input))) ∧
  ∀ (input : TrigInput) (s : State), Edge s input .advance →
    (s.engine.rotationLive = true → exec (.advanceTrigger input) s = .next
      { s.levelChanged input with engine := { s.engine with advanceLatch := true } }) ∧
    (s.engine.rotationLive = false →
      exec (.advanceTrigger input) s = .next (s.levelChanged input))

/-- STEP_END of a rotation run: the step counted, then a pending stop, else a pending splice pushed over
the frame that the move brings, else the advance or the plain move; at the wrap a waiting swap, then
COMPLETE or slot 0 (R87, R82, R84, R105). Where no rotation step completes its last count, the row does
not occur (log 2). -/
def Obligations.StepEndTakesTheFirstThatApplies : Prop :=
  (∀ s : State, ¬ StepEndDue s .rotation → exec .stepEnd s = .next s) ∧
  ∀ (s : State) (f : RunFrame), StepEndDue s .rotation → s.engine.live = some f →
    let c : State :=
      { s with
        timing := { s.timing with pacer := none }
        engine := { s.engine with stepCounter := s.engine.stepCounter + 1 } }
    (s.engine.pendingStop = .failLimit → exec .stepEnd s = .next (runEnd .failLimit c)) ∧
    (s.engine.pendingStop = .quarantineStop →
      exec .stepEnd s = .next (runEnd .quarantineStop c)) ∧
    (s.engine.pendingStop = .none →
      (∀ x, s.engine.pendingSplice = some x →
        (∀ g stack, c.moveOn f s.engine.stack = .frame g stack →
          exec .stepEnd s = .next
            (stepStart { c with engine :=
              { c.engine with
                live := some ⟨x.pattern, ⟨0, .ascending⟩, x.timing, none⟩
                stack := ⟨g, x.skip⟩ :: stack
                pendingSplice := none } })) ∧
        (c.moveOn f s.engine.stack = .wrap →
          (s.engine.options.mode = .oneShot →
            exec .stepEnd s = .next (runEnd .complete (swapIfWaiting .wrap c))) ∧
          (s.engine.options.mode = .continuous →
            exec .stepEnd s = .next
              (stepStart { swapIfWaiting .wrap c with engine :=
                { c.engine with
                  live := some ⟨x.pattern, ⟨0, .ascending⟩, x.timing, none⟩
                  stack := [⟨(swapIfWaiting .wrap c).setupBase 0, x.skip⟩]
                  pendingSplice := none } })))) ∧
      (s.engine.pendingSplice = none →
        let moved := if s.engine.advanceLatch then c.advanceOn f s.engine.stack
          else c.moveOn f s.engine.stack
        let d : State := { c with engine := { c.engine with advanceLatch := false } }
        (∀ g stack, moved = .frame g stack →
          exec .stepEnd s = .next
            (stepStart { d with engine := { d.engine with live := some g, stack := stack } })) ∧
        (moved = .wrap →
          (s.engine.options.mode = .oneShot →
            exec .stepEnd s = .next (runEnd .complete (swapIfWaiting .wrap d))) ∧
          (s.engine.options.mode = .continuous →
            exec .stepEnd s = .next
              (stepStart { swapIfWaiting .wrap d with engine :=
                { d.engine with
                  live := some ((swapIfWaiting .wrap d).setupBase 0)
                  stack := [] } })))))

/-- How the position moves: to the successor; through a pass end to a new pass, the next slot or the
wrap; through a SPLICE frame's end to the frame beneath, moved on by its skip; and how an advance leaves
the frame (R81, R84, R110, R111, R60). -/
def Obligations.PositionMovesThroughPasses : Prop :=
  ∀ (s : State) (f : RunFrame) (stack : List SavedFrame),
    let next (slot : Nat) (m : Moved) : Prop :=
      (∀ h : slot + 1 < 16, slot + 1 < s.rotation.active.count →
        let r := s.rotation.active.slots[(⟨slot + 1, h⟩ : SlotIndex)]
        m = .frame
          ⟨r.pattern, firstPosition r.direction (s.store.content r.pattern).length, r.timing,
            some ⟨⟨slot + 1, h⟩, r.dwell⟩⟩ []) ∧
      (s.rotation.active.count ≤ slot + 1 ∨ 16 ≤ slot + 1 → m = .wrap)
    let ended (g : RunFrame) (b : BasePlace) (m : Moved) : Prop :=
      (1 < b.passesLeft → m = .frame
        { g with
          pos := firstPosition s.rotation.active.slots[b.slot].direction
            (s.store.content g.pattern).length
          base := some ⟨b.slot, b.passesLeft - 1⟩ } []) ∧
      (b.passesLeft ≤ 1 → next b.slot.val m)
    (∀ p, positionAfter (s.directionOf f) (s.store.content f.pattern).length f.pos 1 = some p →
      s.moveOn f stack = .frame { f with pos := p } stack) ∧
    (positionAfter (s.directionOf f) (s.store.content f.pattern).length f.pos 1 = none →
      (∀ b, f.base = some b → ended f b (s.moveOn f stack)) ∧
      (f.base = none → s.moveOn f stack = s.pop stack)) ∧
    (∀ b, f.base = some b → next b.slot.val (s.advanceOn f stack)) ∧
    (f.base = none → s.advanceOn f stack = s.pop stack) ∧
    ∀ g rest,
      (∀ p, positionAfter (s.directionOf g.frame) (s.store.content g.frame.pattern).length
          g.frame.pos g.skip = some p →
        s.pop (g :: rest) = .frame { g.frame with pos := p } rest) ∧
      (positionAfter (s.directionOf g.frame) (s.store.content g.frame.pattern).length
          g.frame.pos g.skip = none →
        (∀ b, g.frame.base = some b → ended g.frame b (s.pop (g :: rest))) ∧
        (g.frame.base = none → s.pop (g :: rest) = s.pop rest))

/-- RESET_ENGINE: a live run ends first, then every block takes its engine-reset values (R100, R17, R55,
R101, R127, R146, R160, R167). -/
def Obligations.ResetEngineValues : Prop :=
  ∀ (r : Req) (s : State), r.payload = [] → Serving s (r.frame Kind.resetEngine) →
    let w := if s.engine.mode.isLive then runEnd .engineReset s else s
    exec (.resetEngine r) s = .next
      (replied
        { w with
          output :=
            { w.output with
              staging := Vector.replicate 24 .z
              applied := Vector.replicate 24 .z }
          timing := { w.timing with pacer := none, waitTimer := ⟨false, 0⟩ }
          engine :=
            { mode := .idle
              runKind := .none
              options := ⟨.oneShot, 0, 0, true⟩
              live := none
              stack := []
              pendingSplice := none
              stepRecord := none
              releaseLatch := false
              advanceLatch := false
              pendingStop := .none
              quarantineInRun := false
              continuityFail := false
              stepCounter := 0
              lastStop := .engineReset
              verdict := .none
              snapshots := s.engine.snapshots }
          checker :=
            { mismatchCounts := Vector.replicate 24 0
              faultCounts := Vector.replicate 24 0
              quarantine := 0
              faultThreshold := s.checker.faultThreshold
              quarantineLimit := s.checker.quarantineLimit
              quarantineAction := s.checker.quarantineAction
              failLog := []
              logOverflow := false
              failingSteps := 0
              firstFailNotified := false }
          survey :=
            { participants := 0
              position := none
              timingSet := 0
              netMap := Vector.replicate 24 none
              mapComplete := false
              reference := s.survey.reference
              referencePresent := s.survey.referencePresent }
          trigger := { s.trigger with latest := none, previous := none } }
        (r.frame Kind.resetEngine) .ok [])

/-! ## Splices (06) -/

/-- A splice, by request or by an edge: refused in the order of its checks, with a notice for an edge;
else pending while a step is in progress, and taken at once otherwise (R103, R104, R107, R108, R113).
That a splice taken at once in HELD leaves no step record kept is the model's reading (log 14). -/
def Obligations.SpliceIsRefusedPendingOrTaken : Prop :=
  ∀ (x : Splice) (s : State),
    let room : Option Status :=
      if s.store.content x.pattern = .undefined then some .notDefined
      else if s.engine.pendingSplice.isSome then some .busy
      else if 4 ≤ s.engine.stack.length then some .stackFull
      else none
    let pend (t : State) : State :=
      { t with engine := { t.engine with pendingSplice := some x } }
    let push (t : State) (g : RunFrame) (m : EngineState) (v : Option VectorRec) : State :=
      { t with
        timing := { t.timing with waitTimer := ⟨false, 0⟩ }
        engine :=
          { t.engine with
            live := some ⟨x.pattern, ⟨0, .ascending⟩, x.timing, none⟩
            stack := ⟨g, x.skip⟩ :: t.engine.stack
            mode := m
            stepRecord := v } }
    (∀ (r : Req) (p t k : Byte), r.payload = [p, t, k] → Serving s (r.frame Kind.splice) →
      s.engine.rotationLive = true → 31 < p.toNat ∨ 3 < t.toNat →
      exec (.splice r) s = .next (replied s (r.frame Kind.splice) .range [])) ∧
    (∀ (r : Req) (p t k : Byte), r.payload = [p, t, k] → Serving s (r.frame Kind.splice) →
      s.engine.rotationLive = true → p.toNat = x.pattern.val → t.toNat = x.timing.val →
      k.toNat = x.skip →
      (∀ st, room = some st →
        exec (.splice r) s = .next (replied s (r.frame Kind.splice) st [])) ∧
      (room = none →
        (s.engine.mode = .running ∨ s.engine.mode = .held .running →
          exec (.splice r) s = .next
            (replied (pend s) (r.frame Kind.splice) .ok ([0] ++ byte s.engine.stack.length))) ∧
        ∀ g, s.engine.live = some g →
          (s.engine.mode = .waiting → exec (.splice r) s = .next
            (replied (stepStart (push s g .running s.engine.stepRecord)) (r.frame Kind.splice) .ok
              ([1] ++ byte (s.engine.stack.length + 1)))) ∧
          (s.engine.mode = .held .waiting ∨ s.engine.mode = .held .boundary →
            exec (.splice r) s = .next
              (replied (push s g (.held .boundary) none) (r.frame Kind.splice) .ok
                ([1] ++ byte (s.engine.stack.length + 1)))))) ∧
    ∀ input : TrigInput, Edge s input (.splice x) →
      let t := s.levelChanged input
      let refused (st : Status) : Prop :=
        exec (.spliceTrigger input) s = .next
          { t with
            link := t.link.notice .spliceRefused
              ([if input = .trgA then 0 else 1, st.code] ++ byte x.pattern.val
                ++ byte x.timing.val ++ byte x.skip ++ [s.engine.mode.code]
                ++ bytesC s.engine.stepCounter) }
      (s.engine.mode = .lockout → refused .locked) ∧
      (s.engine.mode ≠ .lockout → s.engine.rotationLive = false → refused .state) ∧
      (s.engine.rotationLive = true →
        (∀ st, room = some st → refused st) ∧
        (room = none →
          (s.engine.mode = .running ∨ s.engine.mode = .held .running →
            exec (.spliceTrigger input) s = .next (pend t)) ∧
          ∀ g, s.engine.live = some g →
            (s.engine.mode = .waiting → exec (.spliceTrigger input) s =
              .next (stepStart (push t g .running s.engine.stepRecord))) ∧
            (s.engine.mode = .held .waiting ∨ s.engine.mode = .held .boundary →
              exec (.spliceTrigger input) s = .next (push t g (.held .boundary) none))))

/-! ## Snapshots (07) -/

/-- SUSPEND: its refusals in order; the snapshot saved while the frames stand, then the run end, then the
reply (R117, R118, R119). -/
def Obligations.SuspendSavesTheRun : Prop :=
  ∀ (r : Req) (s : State) (snapshot : Byte), r.payload = [snapshot] →
    Serving s (r.frame Kind.suspend) → s.engine.rotationLive = true →
    (3 < snapshot.toNat →
      exec (.suspend r) s = .next (replied s (r.frame Kind.suspend) .range [])) ∧
    ∀ n : SnapshotId, snapshot.toNat = n.val →
      (s.engine.snapshots[n].state ≠ .empty →
        exec (.suspend r) s = .next (replied s (r.frame Kind.suspend) .existsAlready [])) ∧
      ∀ f, s.engine.snapshots[n].state = .empty → s.engine.live = some f →
        let kept (g : SavedFrame) : SnapFrame :=
          { kind := if g.frame.base = none then .splice else .base
            pattern := g.frame.pattern
            slot := match g.frame.base with
              | some b => BitVec.ofNat 8 b.slot.val
              | none => 0xFF
            pos := g.frame.pos
            passesLeft := match g.frame.base with
              | some b => BitVec.ofNat 8 b.passesLeft
              | none => 0xFF
            skip := g.skip
            timing := g.frame.timing
            generation := s.store.directory[g.frame.pattern].generation }
        exec (.suspend r) s = .next
          (replied
            (runEnd .suspended
              { s with
                engine :=
                  { s.engine with
                    snapshots := s.engine.snapshots.set n.val
                      { state := .suspended
                        options := s.engine.options
                        version := s.rotation.version
                        stepCounter := s.engine.stepCounter
                        failingSteps := s.checker.failingSteps
                        frames :=
                          (s.engine.stack.reverse ++ [(⟨f, 0⟩ : SavedFrame)]).map kept } } })
            (r.frame Kind.suspend) .ok
            ([snapshot] ++ byte (s.engine.stack.length + 1) ++ bytesC s.rotation.version
              ++ bytesC s.engine.stepCounter ++ bytes2 s.checker.failingSteps
              ++ [if s.rotation.swapWaiting then 1 else 0]))

/-- RESUME: its refusals in order with what they carry, and the run it starts (R120, R121, R122). -/
def Obligations.ResumeRestoresTheRun : Prop :=
  ∀ (r : Req) (s : State) (snapshot : Byte), r.payload = [snapshot] →
    Serving s (r.frame Kind.resume) → s.engine.mode = .idle →
    (3 < snapshot.toNat →
      exec (.resume r) s = .next (replied s (r.frame Kind.resume) .range [])) ∧
    ∀ (n : SnapshotId) (x : Snapshot), snapshot.toNat = n.val → s.engine.snapshots[n] = x →
      let refused (st : Status) (results : List Byte) : Prop :=
        exec (.resume r) s = .next (replied s (r.frame Kind.resume) st results)
      let stale (f : SnapFrame) : Prop :=
        s.store.content f.pattern = .undefined ∨
          s.store.directory[f.pattern].generation ≠ f.generation
      let consistent (f : SnapFrame) (last : Bool) : Prop :=
        f.pos.index < (s.store.content f.pattern).length ∧ (last = false → f.skip ≤ 255) ∧
          (f.kind = .splice → f.pos.phase = .ascending) ∧
          (f.kind = .base → ∃ i : SlotIndex, f.slot.toNat = i.val ∧
            i.val < s.rotation.active.count ∧ f.pattern = s.rotation.active.slots[i].pattern ∧
            1 ≤ f.passesLeft.toNat ∧ f.passesLeft.toNat ≤ s.rotation.active.slots[i].dwell ∧
            suited s.rotation.active.slots[i].direction (s.store.content f.pattern).length f.pos
              = true)
      let ok (k : Nat) (f : SnapFrame) : Prop := consistent f (decide (k + 1 = x.frames.length))
      (x.state = .empty → refused .empty []) ∧
      (x.state ≠ .empty → x.version ≠ s.rotation.version → refused .stale []) ∧
      (∀ k f, x.state ≠ .empty → x.version = s.rotation.version → x.frames[k]? = some f →
        stale f → (∀ j g, j < k → x.frames[j]? = some g → ¬ stale g) →
        refused .stale (byte k ++ byte f.pattern.val
          ++ [match s.store.content f.pattern with
            | .undefined => (0 : Byte)
            | .stored _ _ => 1
            | .generated _ _ => 2]
          ++ bytesC s.store.directory[f.pattern].generation)) ∧
      (∀ k f, x.state ≠ .empty → x.version = s.rotation.version → (∀ g ∈ x.frames, ¬ stale g) →
        x.frames[k]? = some f → ¬ ok k f →
        (∀ j g, j < k → x.frames[j]? = some g → ok j g) → refused .invalid (byte k)) ∧
      (∀ last under, x.state ≠ .empty → x.version = s.rotation.version →
        (∀ g ∈ x.frames, ¬ stale g) → (∀ k g, x.frames[k]? = some g → ok k g) →
        x.frames = under ++ [last] →
        ∃ t : State,
          t = stepStart
            { s with
              engine :=
                { s.engine with
                  mode := .running
                  runKind := .rotation
                  options := x.options
                  verdict := .none
                  stepCounter := x.stepCounter
                  quarantineInRun := false
                  continuityFail := false
                  pendingStop := .none
                  releaseLatch := false
                  advanceLatch := false
                  pendingSplice := none
                  live := some last.runFrame
                  stack := (under.map fun g => ⟨g.runFrame, g.skip⟩).reverse
                  snapshots := s.engine.snapshots.set n.val
                    ⟨.empty, ⟨.oneShot, 0, 0, true⟩, 0, 0, 0, []⟩ }
              checker :=
                { s.checker with
                  failingSteps := x.failingSteps
                  firstFailNotified := decide (0 < x.failingSteps) } } ∧
          exec (.resume r) s = .next
            (replied t (r.frame Kind.resume) .ok
              (byte under.length ++ bytesC x.stepCounter ++ [t.engine.mode.code])))

/-- A run suspended with no swap waiting and resumed at once stands where it stood: its frames, options,
step counter and failing-step count, in WAITING or RUNNING, and the snapshot is EMPTY again (R118,
R119, R120, R122). -/
def Obligations.SuspendThenResumeRestoresTheRun : Prop :=
  ∀ (s : State) (a b : Req) (n : SnapshotId), Lawful s → s.operating = true →
    s.store.pack = none → s.link.requests = [a.frame Kind.suspend, b.frame Kind.resume] →
    a.payload = [BitVec.ofNat 8 n.val] → b.payload = [BitVec.ofNat 8 n.val] →
    s.engine.rotationLive = true → s.rotation.swapWaiting = false →
    s.engine.snapshots[n].state = .empty →
    ∃ u : State, carriedOut [.suspend a, .resume b] s = .next u ∧
      u.engine.live = s.engine.live ∧ u.engine.stack = s.engine.stack ∧
      u.engine.options = s.engine.options ∧ u.engine.stepCounter = s.engine.stepCounter ∧
      u.checker.failingSteps = s.checker.failingSteps ∧ u.rotation = s.rotation ∧
      u.store = s.store ∧ u.engine.runKind = .rotation ∧
      (u.engine.mode = .running ∨ u.engine.mode = .waiting) ∧
      u.engine.snapshots[n].state = .empty

/-- READ_SNAPSHOT returns a snapshot in LOAD_SNAPSHOT's layout, and LOAD_SNAPSHOT of that layout writes
that snapshot as LOADED into an EMPTY one; of a payload of the right length, a mode, kind or phase byte
that names no value, a pattern id over 31 or a timing set over 3 refuses it (R124, R178).
DISCARD_SNAPSHOT: its checks in order; the snapshot becomes EMPTY, and the reply carries the state it
held (R125). -/
def Obligations.SnapshotsAreReadLoadedAndDiscarded : Prop :=
  (let layout (x : Snapshot) : List Byte :=
    [x.options.mode.code] ++ byte x.options.stopOnFail ++ bytes2 x.options.waitTimeout
      ++ [if x.options.clearAtStart then 1 else 0] ++ bytesC x.version ++ bytesC x.stepCounter
      ++ bytes2 x.failingSteps ++ byte x.frames.length
      ++ x.frames.flatMap fun f =>
        [f.kind.code] ++ byte f.pattern.val ++ [f.slot] ++ bytes2 f.pos.index ++ [f.pos.phase.code]
          ++ [f.passesLeft] ++ bytes2 f.skip ++ byte f.timing.val ++ bytesC f.generation
  (∀ (r : Req) (s : State) (snapshot : Byte), r.payload = [snapshot] →
    Serving s (r.frame Kind.readSnapshot) →
    (3 < snapshot.toNat → exec (.readSnapshot r) s = .next
      (replied s (r.frame Kind.readSnapshot) .range [])) ∧
    ∀ n : SnapshotId, snapshot.toNat = n.val → exec (.readSnapshot r) s = .next
      (replied s (r.frame Kind.readSnapshot) .ok
        ([s.engine.snapshots[n].state.code] ++ layout s.engine.snapshots[n]))) ∧
  (∀ (r : Req) (s : State), Serving s (r.frame Kind.loadSnapshot) → s.engine.mode ≠ .lockout →
    lengthFits (r.frame Kind.loadSnapshot) = true →
    let at' (i : Nat) : Nat := (r.payload.getD i 0).toNat
    1 < at' 1 ∨ (∃ k, k < at' 16 ∧ (1 < at' (17 + 14 * k) ∨ 31 < at' (17 + 14 * k + 1) ∨
      1 < at' (17 + 14 * k + 5) ∨ 3 < at' (17 + 14 * k + 9))) →
    exec (.loadSnapshot r) s = .next (replied s (r.frame Kind.loadSnapshot) .range [])) ∧
  ∀ (r : Req) (s : State) (snapshot : Byte) (x : Snapshot), r.payload = snapshot :: layout x →
    Serving s (r.frame Kind.loadSnapshot) → s.engine.mode ≠ .lockout → x.frames.length < 256 →
    OptionsInRange x.options → x.failingSteps ≤ 65535 →
    (∀ f ∈ x.frames, f.pos.index ≤ 65535 ∧ f.skip ≤ 65535) →
    let formed : Prop :=
      (∃ f rest, x.frames = f :: rest ∧ f.kind = .base ∧ f.slot.toNat ≤ 15 ∧ rest.length ≤ 4 ∧
        ∀ g ∈ rest, g.kind = .splice)
    (3 < snapshot.toNat ∨ ¬ formed →
      exec (.loadSnapshot r) s = .next (replied s (r.frame Kind.loadSnapshot) .range [])) ∧
    ∀ n : SnapshotId, snapshot.toNat = n.val → formed →
      (s.engine.snapshots[n].state ≠ .empty → exec (.loadSnapshot r) s = .next
        (replied s (r.frame Kind.loadSnapshot) .existsAlready [])) ∧
      (s.engine.snapshots[n].state = .empty → exec (.loadSnapshot r) s = .next
        (replied
          { s with engine :=
            { s.engine with snapshots :=
              s.engine.snapshots.set n.val { x with state := .loaded } } }
          (r.frame Kind.loadSnapshot) .ok []))) ∧
  ∀ (r : Req) (s : State) (snapshot : Byte), r.payload = [snapshot] →
    Serving s (r.frame Kind.discardSnapshot) →
    (s.engine.mode = .lockout → exec (.discardSnapshot r) s = .next
      (replied s (r.frame Kind.discardSnapshot) .locked [])) ∧
    (s.engine.mode ≠ .lockout → 3 < snapshot.toNat → exec (.discardSnapshot r) s = .next
      (replied s (r.frame Kind.discardSnapshot) .range [])) ∧
    ∀ n : SnapshotId, s.engine.mode ≠ .lockout → snapshot.toNat = n.val →
      exec (.discardSnapshot r) s = .next
        (replied
          { s with
            engine :=
              { s.engine with
                snapshots := s.engine.snapshots.set n.val
                  ⟨.empty, ⟨.oneShot, 0, 0, true⟩, 0, 0, 0, []⟩ } }
          (r.frame Kind.discardSnapshot) .ok [s.engine.snapshots[n].state.code])

/-! ## The checker (08) -/

/-- Each strobe of a rotation run adds one to the mismatch count of every mismatch lane, up to 255, and
keeps the others (R129); a strobe of a survey keeps every mismatch count (R138). Each strobe, of either run kind, adds one to the fault count of every faulty
lane, up to 15, clears that of every other driven lane, and keeps that of a lane not driven (R130). -/
def Obligations.StrobeCountsMismatchesAndFaults : Prop :=
  (∀ (a : Assembly) (s : State) (v : VectorRec), StrobeDue s .rotation →
    s.engine.stepRecord = some v →
    ∃ t : State, exec (.strobe a) s = .next t ∧
      ∀ n : Lane,
        (LaneMismatch s a v n →
          t.checker.mismatchCounts[n] = min (s.checker.mismatchCounts[n] + 1) 255) ∧
        (¬ LaneMismatch s a v n → t.checker.mismatchCounts[n] = s.checker.mismatchCounts[n])) ∧
  ∀ (a : Assembly) (s : State),
    let counted (t : State) : Prop := ∀ n : Lane,
      (LaneFault s a n → t.checker.faultCounts[n] = min (s.checker.faultCounts[n] + 1) 15) ∧
      (LaneDriven s n → ¬ LaneFault s a n → t.checker.faultCounts[n] = 0) ∧
      (¬ LaneDriven s n → t.checker.faultCounts[n] = s.checker.faultCounts[n])
    (StrobeDue s .rotation → ∃ t, exec (.strobe a) s = .next t ∧ counted t) ∧
    (StrobeDue s .survey → ∃ t, exec (.surveyStrobe a) s = .next t ∧ counted t ∧
      t.checker.mismatchCounts = s.checker.mismatchCounts)

/-- What a strobe finds: a failing step with its record and count; the lanes quarantined, each with its
record; the pending stop asked for; or LOCKOUT, with a waiting swap; the notices made, in their order;
and what it leaves (R131, R132, R133, R134, R135, R136, R137, R97, R138). The counts of the lanes and
the net map are stated beside it. Where no step of its run comes to count S, a strobe's row does not
occur (log 2). -/
def Obligations.StrobeLogsQuarantinesAndLocksOut : Prop :=
  ∀ (a : Assembly) (s : State) (mismatches faults observed : LaneSet), LogLaw s →
    (∀ n, hasLane faults n = true ↔ LaneFault s a n) →
    (∀ n, hasLane observed n = s.sense a n) →
    let judged (t : State) : Prop :=
      let failing : Bool := mismatches ||| faults ≠ 0
      let record (d : FailDetail) : FailRec :=
        ⟨d, s.engine.stepCounter, s.engine.stack.length, s.engine.place, observed⟩
      let lanes := (List.finRange 24).filter fun n =>
        hasLane faults n ∧ s.checker.faultThreshold ≤ t.checker.faultCounts[n]
      let records := (if failing then [record (.stepFail mismatches faults)] else [])
        ++ lanes.map fun n => record (.quarantine n)
      let limited : Bool := lanes ≠ [] ∧ s.checker.quarantineLimit ≤ laneCount t.checker.quarantine
      let added (n : Lane) : LaneSet :=
        lanesWhere fun m => hasLane s.checker.quarantine m || decide (m ∈ lanes ∧ m ≤ n)
      let notices : List (NoticeKind × List Byte) :=
        (if failing ∧ s.checker.firstFailNotified = false then
          [(.stepFail, (record (.stepFail mismatches faults)).bytes)] else [])
        ++ lanes.map (fun n => (.quarantine, byte n.val ++ bytesL (added n)
          ++ bytesC s.engine.stepCounter ++ byte s.engine.stack.length))
        ++ (if limited ∧ s.rotation.swapWaiting = true then
          [(.swapDone, bytesC (s.rotation.version + 1) ++ byte s.rotation.pendingRot.count ++ [2])]
          else [])
        ++ (if limited then
          [(.runEnd, [StopCause.lockout.code, Verdict.fail.code, s.engine.runKind.code]
            ++ bytesC s.engine.stepCounter ++ bytes2 t.checker.failingSteps),
          (.lockout, bytesL t.checker.quarantine ++ bytesC s.engine.stepCounter
            ++ bytes2 t.checker.failingSteps)] else [])
      t.link = notices.foldl (fun l x => l.notice x.1 x.2) s.link ∧
      t.checker.failingSteps =
        (if failing then min (s.checker.failingSteps + 1) 65535 else s.checker.failingSteps) ∧
      t.checker.firstFailNotified = (s.checker.firstFailNotified || failing) ∧
      t.checker.failLog = (s.checker.failLog ++ records).take 64 ∧
      t.checker.logOverflow =
        (s.checker.logOverflow || decide (64 < s.checker.failLog.length + records.length)) ∧
      (∀ n, hasLane t.checker.quarantine n = (hasLane s.checker.quarantine n || n ∈ lanes)) ∧
      t.checker.faultThreshold = s.checker.faultThreshold ∧
      t.checker.quarantineLimit = s.checker.quarantineLimit ∧
      t.checker.quarantineAction = s.checker.quarantineAction ∧
      t.store = s.store ∧ t.trigger = s.trigger ∧ t.output = s.output ∧ t.pending = s.pending ∧
      t.timing.sets = s.timing.sets ∧
      t.survey = { s.survey with netMap := t.survey.netMap, position := t.survey.position } ∧
      (limited = true → t.engine.mode = .lockout ∧ t.engine.lastStop = .lockout ∧
        t.engine.verdict = .fail ∧ t.engine.live = none ∧ t.engine.stack = [] ∧
        t.engine.pendingSplice = none ∧ t.engine.pendingStop = .none ∧
        t.engine.stepCounter = s.engine.stepCounter ∧ t.engine.runKind = s.engine.runKind ∧
        t.engine.options = s.engine.options ∧ t.engine.snapshots = s.engine.snapshots ∧
        t.timing.pacer = none ∧ t.timing.waitTimer.running = false ∧ t.survey.position = none ∧
        t.rotation =
          if s.rotation.swapWaiting then
            { active := s.rotation.pendingRot
              pendingRot := s.rotation.pendingRot
              version := s.rotation.version + 1
              swapWaiting := false }
          else s.rotation) ∧
      (limited = false → t.rotation = s.rotation ∧ t.survey.position = s.survey.position ∧
        t.timing =
          { s.timing with
            pacer := s.timing.pacer.map fun k => { k with count := k.strobe, spent := 0 } } ∧
        t.engine =
          { s.engine with
            quarantineInRun := s.engine.quarantineInRun || decide (lanes ≠ [])
            pendingStop :=
              if lanes ≠ [] ∧ s.checker.quarantineAction = .stop then .quarantineStop
              else if failing ∧ s.engine.options.stopOnFail ≠ 0 ∧
                  s.engine.options.stopOnFail ≤ t.checker.failingSteps ∧
                  s.engine.pendingStop = .none then .failLimit
              else s.engine.pendingStop })
    (∀ v, StrobeDue s .rotation → s.engine.stepRecord = some v →
      (∀ n, hasLane mismatches n = true ↔ LaneMismatch s a v n) →
      ∃ t, exec (.strobe a) s = .next t ∧ judged t ∧ t.survey.netMap = s.survey.netMap) ∧
    (StrobeDue s .survey → mismatches = 0 →
      ∃ t, exec (.surveyStrobe a) s = .next t ∧ judged t) ∧
    (¬ StrobeDue s .rotation → exec (.strobe a) s = .next s) ∧
    (¬ StrobeDue s .survey → exec (.surveyStrobe a) s = .next s)

/-- SET_CHECK: its refusals, and the three settings it writes (R139). CLEAR_LANE: its checks in order; the
lanes named leave quarantine with their fault counts 0, and nothing else changes (R140). -/
def Obligations.CheckerSettingsAndQuarantineAreWritten : Prop :=
  (∀ (r : Req) (s : State) (threshold limit action : Byte), r.payload = [threshold, limit, action] →
    Serving s (r.frame Kind.setCheck) → s.engine.mode = .idle ∨ s.engine.mode = .armed →
    (threshold.toNat = 0 ∨ 15 < threshold.toNat ∨ limit.toNat = 0 ∨ 24 < limit.toNat ∨
      QuarantineAction.ofByte? action = none ∨ limit.toNat ≤ laneCount s.checker.quarantine →
      exec (.setCheck r) s = .next (replied s (r.frame Kind.setCheck) .range [])) ∧
    ∀ act, 1 ≤ threshold.toNat → threshold.toNat ≤ 15 → limit.toNat ≤ 24 →
      laneCount s.checker.quarantine < limit.toNat → QuarantineAction.ofByte? action = some act →
      exec (.setCheck r) s = .next
        (replied
          { s with checker :=
            { s.checker with
              faultThreshold := threshold.toNat
              quarantineLimit := limit.toNat
              quarantineAction := act } }
          (r.frame Kind.setCheck) .ok
          ([threshold, limit, action] ++ byte (laneCount s.checker.quarantine)))) ∧
  ∀ (r : Req) (s : State) (l2 l1 l0 : Byte), r.payload = [l2, l1, l0] →
    Serving s (r.frame Kind.clearLane) →
    (s.engine.mode = .lockout →
      exec (.clearLane r) s = .next (replied s (r.frame Kind.clearLane) .locked [])) ∧
    (s.engine.mode.isLive = true →
      exec (.clearLane r) s = .next (replied s (r.frame Kind.clearLane) .state [])) ∧
    (s.engine.mode = .idle ∨ s.engine.mode = .armed →
      ∃ (q : LaneSet) (faultCounts : Lanes Nat),
        exec (.clearLane r) s = .next
          (replied
            { s with checker := { s.checker with quarantine := q, faultCounts := faultCounts } }
            (r.frame Kind.clearLane) .ok (bytesL q)) ∧
        ∀ n : Lane,
          hasLane q n = (hasLane s.checker.quarantine n && !hasLane (laneSet3 l2 l1 l0) n) ∧
          faultCounts[n] =
            if hasLane (laneSet3 l2 l1 l0) n then 0 else s.checker.faultCounts[n])

/-- READ_FAILS: its check; the oldest records removed and returned, the number left and the flag as it
stood, and the flag cleared where the log is now empty (R141). READ_COUNTS replies the counts, the
quarantine set and the settings, and clears the mismatch counts alone (R142). That the records' count
stands in a byte before them is the model's reading of R177's lists (log 9). A fail record is written in
21 bytes, absent fields all ones (R178, R177). -/
def Obligations.FailsAndCountsAreReadAndCleared : Prop :=
  (∀ (r : Req) (s : State) (max : Byte), r.payload = [max] → Serving s (r.frame Kind.readFails) →
    (max.toNat = 0 ∨ 8 < max.toNat →
      exec (.readFails r) s = .next (replied s (r.frame Kind.readFails) .range [])) ∧
    ∀ removed left, 1 ≤ max.toNat → max.toNat ≤ 8 → s.checker.failLog = removed ++ left →
      removed.length = max.toNat ∨ (removed.length < max.toNat ∧ left = []) →
      exec (.readFails r) s = .next
        (replied
          { s with checker :=
            { s.checker with
              failLog := left
              logOverflow := if left = [] then false else s.checker.logOverflow } }
          (r.frame Kind.readFails) .ok
          (byte removed.length ++ removed.flatMap FailRec.bytes ++ byte left.length
            ++ [if s.checker.logOverflow then 1 else 0]))) ∧
  (∀ (r : Req) (s : State), r.payload = [] → Serving s (r.frame Kind.readCounts) →
    exec (.readCounts r) s = .next
      (replied
        { s with checker := { s.checker with mismatchCounts := Vector.replicate 24 0 } }
        (r.frame Kind.readCounts) .ok
        ((List.finRange 24).flatMap (fun n => byte s.checker.mismatchCounts[n])
          ++ (List.finRange 24).flatMap (fun n => byte s.checker.faultCounts[n])
          ++ bytes2 s.checker.failingSteps ++ bytesL s.checker.quarantine
          ++ byte (laneCount s.checker.quarantine) ++ byte s.checker.faultThreshold
          ++ byte s.checker.quarantineLimit ++ [s.checker.quarantineAction.code]))) ∧
  ∀ x : FailRec, x.bytes.length = 21 ∧
    x.bytes =
      [match x.detail with
        | .stepFail _ _ => (0 : Byte)
        | .quarantine _ => 1
        | .openNet _ _ => 2
        | .shortNet _ _ => 3]
      ++ bytesC x.stepCounter ++ byte x.depth
      ++ (match x.place with
        | some p => byte p.pattern.val ++ bytes2 p.index ++ byte p.slot.val
        | none => [0xFF, 0xFF, 0xFF, 0xFF])
      ++ (match x.detail with
        | .stepFail m f => bytesL m ++ bytesL f ++ [0xFF, 0xFF]
        | .quarantine n => List.replicate 6 0xFF ++ byte n.val ++ [0xFF]
        | .openNet d o => List.replicate 6 0xFF ++ byte d.val ++ byte o.val
        | .shortNet d o => List.replicate 6 0xFF ++ byte d.val ++ byte o.val)
      ++ bytesL x.observed

/-! ## The survey (09) -/

/-- SURVEY: its refusals, and the survey it starts, the lowest participant driven to pin level 1 and
every other lane Z (R148, R149, R150, R6). SURVEY_STEP_END: a pending stop, the next participant, or
the comparison and COMPLETE (R152); where no survey step completes its last count, the row does not occur
(log 2). -/
def Obligations.SurveyStepsThroughItsParticipants : Prop :=
  let drives (s t : State) (d : Lane) : Prop :=
    t.output = { s.output with staging := t.output.staging, applied := t.output.applied } ∧
      ∀ n : Lane, t.output.staging[n] = t.output.applied[n] ∧
        t.output.applied[n] =
          if n = d then (if (s.output.cfg n).invert then .zero else .one) else .z
  (∀ (r : Req) (s : State) (set l2 l1 l0 : Byte) (lanes : LaneSet), r.payload = [set, l2, l1, l0] →
    Serving s (r.frame Kind.survey) → s.engine.mode = .idle →
    (∀ n, hasLane lanes n = (hasLane (laneSet3 l2 l1 l0) n && (s.output.cfg n).enable
      && !hasLane s.checker.quarantine n)) →
    (3 < set.toNat ∨ laneCount lanes < 2 →
      exec (.survey r) s = .next (replied s (r.frame Kind.survey) .range [])) ∧
    ∀ (i : TimingId) (d : Lane), set.toNat = i.val → 2 ≤ laneCount lanes → hasLane lanes d = true →
      (∀ n, hasLane lanes n = true → d ≤ n) →
      ∃ t : State,
        exec (.survey r) s = .next
          (replied t (r.frame Kind.survey) .ok (bytesL lanes ++ byte (laneCount lanes))) ∧
        drives s t d ∧
        t =
          { s with
            output := t.output
            timing :=
              { s.timing with pacer := some ⟨s.timing.sets[i].prescale, s.timing.sets[i].period,
                s.timing.sets[i].strobe, 0, 0⟩ }
            engine :=
              { s.engine with
                mode := .running
                runKind := .survey
                verdict := .none
                quarantineInRun := false
                continuityFail := false
                pendingStop := .none
                releaseLatch := false
                advanceLatch := false
                stepCounter :=
                  if s.engine.options.clearAtStart then 0 else s.engine.stepCounter }
            survey :=
              { s.survey with
                participants := lanes
                position := some d
                timingSet := i
                netMap := Vector.replicate 24 none
                mapComplete := false }
            checker :=
              if s.engine.options.clearAtStart then
                { s.checker with
                  firstFailNotified := false
                  failingSteps := 0
                  failLog := []
                  mismatchCounts := Vector.replicate 24 0
                  logOverflow := false }
              else { s.checker with firstFailNotified := false } }) ∧
  (∀ s : State, ¬ StepEndDue s .survey → exec .surveyStepEnd s = .next s) ∧
  ∀ (s : State) (d : Lane), StepEndDue s .survey → s.survey.position = some d →
    let c : State :=
      { s with
        timing := { s.timing with pacer := none }
        engine := { s.engine with stepCounter := s.engine.stepCounter + 1 } }
    (s.engine.pendingStop = .failLimit → exec .surveyStepEnd s = .next (runEnd .failLimit c)) ∧
    (s.engine.pendingStop = .quarantineStop →
      exec .surveyStepEnd s = .next (runEnd .quarantineStop c)) ∧
    (s.engine.pendingStop = .none →
      (∀ m, hasLane s.survey.participants m = true → d < m →
        (∀ n, hasLane s.survey.participants n = true → d < n → m ≤ n) →
        ∃ t : State, exec .surveyStepEnd s = .next t ∧ drives s t m ∧
          t =
            { c with
              output := t.output
              survey := { s.survey with position := some m }
              timing :=
                { s.timing with pacer := some ⟨s.timing.sets[s.survey.timingSet].prescale,
                  s.timing.sets[s.survey.timingSet].period,
                  s.timing.sets[s.survey.timingSet].strobe, 0, 0⟩ } }) ∧
      ((∀ n, hasLane s.survey.participants n = true → n ≤ d) → LogLaw s →
        exec .surveyStepEnd s = .next
          (runEnd .complete
            { c with
              survey := { s.survey with mapComplete := true }
              checker :=
                { s.checker with
                  failLog := (s.checker.failLog ++ s.survey.comparison).take 64
                  logOverflow := s.checker.logOverflow
                    || decide (64 < s.checker.failLog.length + s.survey.comparison.length) }
              engine :=
                { c.engine with
                  continuityFail :=
                    s.engine.continuityFail || decide (s.survey.comparison ≠ []) } })))

/-- SURVEY_STROBE writes the driven participant's net map entry in pin levels (R151), and the comparison
makes an OPEN or SHORT record of each pair of compared lanes on which the maps differ (R154). -/
def Obligations.NetMapIsWrittenAndCompared : Prop :=
  (∀ (a : Assembly) (s : State) (d : Lane), StrobeDue s .survey →
    s.survey.position = some d →
    ∃ (t : State) (e : NetEntry), exec (.surveyStrobe a) s = .next t ∧
      t.survey.netMap = s.survey.netMap.set d.val (some e) ∧
      (∀ n, hasLane e.observedSet n =
        (hasLane s.survey.participants n && decide (n ≠ d) && s.sensed a n)) ∧
      e.stepCounter = s.engine.stepCounter ∧ (∀ n, hasLane e.observed n = s.sense a n) ∧
      t.survey.participants = s.survey.participants ∧
      t.survey.timingSet = s.survey.timingSet ∧ t.survey.mapComplete = s.survey.mapComplete ∧
      t.survey.reference = s.survey.reference ∧
      t.survey.referencePresent = s.survey.referencePresent) ∧
  ∀ v : Survey,
    (v.referencePresent = false → v.comparison = []) ∧
    (v.referencePresent = true → v.comparison =
      (List.finRange 24).flatMap fun i => (List.finRange 24).filterMap fun j =>
        match v.reference[i], v.reference[j], v.netMap[i] with
        | some expected, some _, some e =>
          if hasLane v.participants i ∧ hasLane v.participants j ∧ i ≠ j then
            if hasLane expected j ∧ ¬ hasLane e.observedSet j then
              some ⟨.openNet i j, e.stepCounter, 0, none, e.observed⟩
            else if hasLane e.observedSet j ∧ ¬ hasLane expected j then
              some ⟨.shortNet i j, e.stepCounter, 0, none, e.observed⟩
            else none
          else none
        | _, _, _ => none)

/-- LOAD_REFERENCE, ADOPT_REFERENCE and CLEAR_REFERENCE write the reference map whole (R157, R158). -/
def Obligations.ReferenceMapIsWrittenWhole : Prop :=
  let present (m : Lanes (Option LaneSet)) : Nat :=
    ((List.finRange 24).filter fun n => m[n].isSome).length
  (∀ (r : Req) (s : State) (p a b c : Lane → Byte),
    r.payload = (List.finRange 24).flatMap (fun n => [p n, a n, b n, c n]) →
    Serving s (r.frame Kind.loadReference) → s.engine.mode ≠ .lockout →
    s.engine.surveyLive = false →
    ((∃ n, 1 < (p n).toNat) → exec (.loadReference r) s = .next
      (replied s (r.frame Kind.loadReference) .range [])) ∧
    ((∀ n, (p n).toNat ≤ 1) →
      ∃ m : Lanes (Option LaneSet),
        (∀ n : Lane, m[n] = if p n = 1 then some (laneSet3 (a n) (b n) (c n)) else none) ∧
        exec (.loadReference r) s = .next
          (replied
            { s with survey := { s.survey with reference := m, referencePresent := true } }
            (r.frame Kind.loadReference) .ok (byte (present m))))) ∧
  (∀ (r : Req) (s : State), r.payload = [] → Serving s (r.frame Kind.adoptReference) →
    s.engine.mode ≠ .lockout → s.engine.surveyLive = false →
    (s.survey.mapComplete = false → exec (.adoptReference r) s = .next
      (replied s (r.frame Kind.adoptReference) .empty [])) ∧
    (s.survey.mapComplete = true →
      ∃ m : Lanes (Option LaneSet),
        (∀ n : Lane, m[n] = s.survey.netMap[n].map NetEntry.observedSet) ∧
        exec (.adoptReference r) s = .next
          (replied
            { s with survey := { s.survey with reference := m, referencePresent := true } }
            (r.frame Kind.adoptReference) .ok (byte (present m))))) ∧
  ∀ (r : Req) (s : State), r.payload = [] → Serving s (r.frame Kind.clearReference) →
    s.engine.mode ≠ .lockout → s.engine.surveyLive = false →
    exec (.clearReference r) s = .next
      (replied
        { s with survey :=
          { s.survey with
            reference := Vector.replicate 24 none
            referencePresent := false } }
        (r.frame Kind.clearReference) .ok [])

/-! ## Triggers and captures (10) -/

/-- A change of an input's level is taken in every engine state; without an edge, or with action NONE,
it does nothing more (R161). Each trigger row takes the change that the input's configuration makes it,
and no other: where the configuration delivers another action, or the change is no edge, a row of an
action leaves the state as it is (the model's reading, log 13). SET_TRIGGER: its refusals in order, and the configuration
it writes, the last level kept (R162). -/
def Obligations.TriggerInputsAreSetAndSensed : Prop :=
  ((∀ (input : TrigInput) (s : State),
    s.levelChanged input =
      { s with trigger :=
        if input = .trgA then
          { s.trigger with
            trgA := { s.trigger.trgA with lastLevel := !s.trigger.trgA.lastLevel } }
        else
          { s.trigger with
            trgB := { s.trigger.trgB with lastLevel := !s.trigger.trgB.lastLevel } } }) ∧
  (∀ (input : TrigInput) (s : State) (c : TrigCfg), s.operating = true →
    s.trigger.cfg input = c →
    (c.edge = .rising ∧ c.lastLevel = true ∨ c.edge = .falling ∧ c.lastLevel = false ∨
      c.action = .none →
      exec (.triggerLevelChange input) s = .next (s.levelChanged input)) ∧
    (∀ action, Edge s input action → action ≠ .none →
      exec (.triggerLevelChange input) s = .next s)) ∧
  (∀ (input : TrigInput) (s : State),
    (¬ Edge s input .start → exec (.startTrigger input) s = .next s) ∧
    (¬ Edge s input .stop → exec (.stopTrigger input) s = .next s) ∧
    (¬ Edge s input .release → exec (.releaseTrigger input) s = .next s) ∧
    (¬ Edge s input .advance → exec (.advanceTrigger input) s = .next s) ∧
    (¬ Edge s input .capture → exec (.captureTrigger input) s = .next s) ∧
    ((∀ x, ¬ Edge s input (.splice x)) → exec (.spliceTrigger input) s = .next s)) ∧
  ∀ (input : TrigInput) (s : State), s.operating = false →
    exec (.triggerLevelChange input) s = .next s ∧ exec (.startTrigger input) s = .next s ∧
    exec (.stopTrigger input) s = .next s ∧ exec (.releaseTrigger input) s = .next s ∧
    exec (.advanceTrigger input) s = .next s ∧ exec (.captureTrigger input) s = .next s ∧
    exec (.spliceTrigger input) s = .next s) ∧
  ∀ (r : Req) (s : State) (input edge action p t k : Byte),
    r.payload = [input, edge, action, p, t, k] → Serving s (r.frame Kind.setTrigger) →
    s.engine.mode = .idle ∨ s.engine.mode = .armed →
    (1 < input.toNat ∨ TrigEdge.ofByte? edge = none ∨ 6 < action.toNat →
      exec (.setTrigger r) s = .next (replied s (r.frame Kind.setTrigger) .range [])) ∧
    ∀ (i : TrigInput) (e : TrigEdge), TrigInput.ofByte? input = some i →
      TrigEdge.ofByte? edge = some e →
      (action.toNat = 6 → 31 < p.toNat ∨ 3 < t.toNat →
        exec (.setTrigger r) s = .next (replied s (r.frame Kind.setTrigger) .range [])) ∧
      (∀ q : PatternId, action.toNat = 6 → p.toNat = q.val → t.toNat ≤ 3 →
        s.store.content q = .undefined →
        exec (.setTrigger r) s = .next (replied s (r.frame Kind.setTrigger) .notDefined [])) ∧
      ∀ (act : TrigAction) (preset : List Byte),
        ((∃ (q : PatternId) (u : TimingId), action.toNat = 6 ∧ p.toNat = q.val ∧
            t.toNat = u.val ∧ s.store.content q ≠ .undefined ∧ act = .splice ⟨q, u, k.toNat⟩ ∧
            preset = [p, t, k]) ∨
          (action.toNat < 6 ∧ TrigAction.plain? action = some act ∧
            preset = [0xFF, 0xFF, 0xFF])) →
        exec (.setTrigger r) s = .next
          (replied
            { s with trigger :=
              if i = .trgA then
                { s.trigger with trgA := ⟨e, act, s.trigger.trgA.lastLevel⟩ }
              else { s.trigger with trgB := ⟨e, act, s.trigger.trgB.lastLevel⟩ } }
            (r.frame Kind.setTrigger) .ok
            ([edge, action] ++ preset ++ [if (s.trigger.cfg i).lastLevel then 1 else 0]))

/-- A capture, by request or by a CAPTURE edge, keeps the record of a live run as latest and the one
before as previous; an edge's makes a notice (R163, R165, R166). The base slot index that records and
notices carry is the slot of the run's bottom frame (R133, R165). -/
def Obligations.CapturesAreKept : Prop :=
  let record (s : State) (source : CaptureSource) : CaptureRec :=
    { source := source
      mode := s.engine.mode
      runKind := s.engine.runKind
      stepCounter := s.engine.stepCounter
      depth := s.engine.stack.length
      place := s.engine.live.map fun f => ⟨f.pattern, f.pos.index, s.engine.baseSlot⟩
      surveyLane := s.survey.position }
  let kept (t : Trigger) (c : CaptureRec) : Trigger :=
    { t with
      latest := some c
      previous := if t.latest = none then t.previous else t.latest }
  (∀ (r : Req) (s : State), r.payload = [] → Serving s (r.frame Kind.capture) →
    s.engine.mode.isLive = true →
    exec (.capture r) s = .next
      (replied { s with trigger := kept s.trigger (record s .request) } (r.frame Kind.capture) .ok
        (record s .request).bytes)) ∧
  (∀ (input : TrigInput) (s : State), Edge s input .capture →
    let source : CaptureSource := if input = .trgA then .trgA else .trgB
    (s.engine.mode.isLive = true →
      exec (.captureTrigger input) s = .next
        { s with
          trigger := kept (s.levelChanged input).trigger (record s source)
          link := s.link.notice .capture (record s source).bytes }) ∧
    (s.engine.mode.isLive = false →
      exec (.captureTrigger input) s = .next (s.levelChanged input))) ∧
  ∀ e : Engine,
    e.place = e.live.map (fun f => ⟨f.pattern, f.pos.index, e.baseSlot⟩) ∧
    (∀ under g b, e.stack = under ++ [g] → g.frame.base = some b → e.baseSlot = b.slot) ∧
    ∀ f b, e.stack = [] → e.live = some f → f.base = some b → e.baseSlot = b.slot

/-! ## Replies that only read -/

/-- POSITION, READ_ROTATION, READ_NET_MAP and READ_CAPTURE reply what they read, field by field, and
change nothing (R98, R63, R156, R166, R178; the order of POSITION's and READ_CAPTURE's fields, the first
strobe's counter and an absent expected set's bytes are the model's readings, logs 9, 18 and 20). Numbers
go most significant byte first, and the records and codes in those replies and in notices are laid out
as R177 and R178 give them. -/
def Obligations.ReadingRepliesChangeNothing : Prop :=
  ((∀ n : Nat, byte n = [BitVec.ofNat 8 n] ∧
      bytes2 n = [BitVec.ofNat 8 (n / 256), BitVec.ofNat 8 n] ∧
      bytes4 n = [BitVec.ofNat 8 (n / 16777216), BitVec.ofNat 8 (n / 65536),
        BitVec.ofNat 8 (n / 256), BitVec.ofNat 8 n]) ∧
    (∀ c : Count32, bytesC c = bytes4 c.toNat) ∧
    (∀ l : LaneSet, bytesL l = [BitVec.ofNat 8 (l.toNat / 65536), BitVec.ofNat 8 (l.toNat / 256),
      BitVec.ofNat 8 l.toNat]) ∧
    (∀ o, [EngineState.idle, .armed, .running, .waiting, .held o, .lockout].map EngineState.code
      = [0, 1, 2, 3, 4, 5]) ∧
    [HeldOrigin.running, .waiting, .boundary].map HeldOrigin.code = [0, 1, 2] ∧
    [RunKind.rotation, .survey, .none].map RunKind.code = [0, 1, 2] ∧
    [StopCause.none, .hostStop, .triggerStop, .complete, .failLimit, .quarantineStop, .waitTimeout,
      .lockout, .suspended, .engineReset].map StopCause.code = [0, 1, 2, 3, 4, 5, 6, 7, 8, 9] ∧
    [Verdict.none, .pass, .fail, .incomplete].map Verdict.code = [0, 1, 2, 3] ∧
    [Status.ok, .badKind, .badLength, .range, .state, .locked, .inUse, .existsAlready, .notDefined,
      .noRoom, .fragmented, .kind, .empty, .swapWaiting, .notWaiting, .stackFull, .busy, .stale,
      .invalid, .inexact, .queueFull].map Status.code
      = (List.range 21).map (BitVec.ofNat 8) ∧
    (∀ (f : RunFrame) (skip : Nat),
      let phase : Byte := if f.pos.phase = .ascending then 0 else 1
      f.bytes skip =
        match f.base with
        | some b => [0] ++ byte f.pattern.val ++ byte b.slot.val ++ bytes2 f.pos.index ++ [phase]
          ++ byte b.passesLeft ++ bytes2 skip ++ byte f.timing.val
        | none => [1] ++ byte f.pattern.val ++ [0xFF] ++ bytes2 f.pos.index ++ [phase] ++ [0xFF]
          ++ bytes2 skip ++ byte f.timing.val) ∧
    (∀ c : CaptureRec, c.bytes =
      [match c.source with
        | .trgA => (0 : Byte)
        | .trgB => 1
        | .request => 2]
      ++ [c.mode.code]
      ++ [match c.mode with
        | .held o => o.code
        | _ => 0xFF]
      ++ [c.runKind.code] ++ bytesC c.stepCounter ++ byte c.depth
      ++ (match c.place with
        | some p => byte p.pattern.val ++ bytes2 p.index ++ byte p.slot.val
        | none => [0xFF, 0xFF, 0xFF, 0xFF])
      ++ [match c.surveyLane with
        | some n => BitVec.ofNat 8 n.val
        | none => (0xFF : Byte)]) ∧
    (∀ c : TrigCfg, c.bytes =
      [match c.edge with
        | .rising => (0 : Byte)
        | .falling => 1
        | .both => 2]
      ++ match c.action with
        | .none => [0, 0xFF, 0xFF, 0xFF]
        | .start => [1, 0xFF, 0xFF, 0xFF]
        | .stop => [2, 0xFF, 0xFF, 0xFF]
        | .release => [3, 0xFF, 0xFF, 0xFF]
        | .advance => [4, 0xFF, 0xFF, 0xFF]
        | .capture => [5, 0xFF, 0xFF, 0xFF]
        | .splice x => [6] ++ byte x.pattern.val ++ byte x.timing.val ++ byte x.skip) ∧
    ∀ v : Survey,
      ((∀ n : Lane, v.netMap[n] = none) → v.firstCounter = 0xFFFFFFFF) ∧
      ∀ (n : Lane) (e : NetEntry), v.netMap[n] = some e →
        (∀ m : Lane, m < n → v.netMap[m] = none) →
        v.firstCounter = e.stepCounter - BitVec.ofNat 32
          ((List.finRange 24).filter fun m => hasLane v.participants m && decide (m < n)).length) ∧
  (∀ (r : Req) (s : State), r.payload = [] → Serving s (r.frame Kind.position) →
    exec (.position r) s = .next
      (replied s (r.frame Kind.position) .ok
        ([s.engine.mode.code]
          ++ [match s.engine.mode with
            | .held o => o.code
            | _ => 0xFF]
          ++ [s.engine.runKind.code] ++ byte s.engine.stack.length
          ++ (match s.engine.live with
            | some f => byte (s.engine.stack.length + 1)
              ++ s.engine.stack.reverse.flatMap (fun g => g.frame.bytes g.skip) ++ f.bytes 0
            | none => [0])
          ++ bytesC s.engine.stepCounter ++ [s.engine.pendingStop.code]
          ++ (match s.engine.pendingSplice with
            | some x => [1] ++ byte x.pattern.val ++ byte x.timing.val ++ byte x.skip
            | none => [0, 0xFF, 0xFF, 0xFF])
          ++ [if s.engine.releaseLatch then 1 else 0, if s.engine.advanceLatch then 1 else 0]
          ++ (if s.engine.mode = .waiting ∨ s.engine.mode = .held .waiting then
              bytes2 ((s.timing.waitTimer.remaining + 49999) / 50000)
            else [0xFF, 0xFF])))) ∧
  (∀ (r : Req) (s : State) (which : Byte), r.payload = [which] →
    Serving s (r.frame Kind.readRotation) →
    (1 < which.toNat → exec (.readRotation r) s = .next
      (replied s (r.frame Kind.readRotation) .range [])) ∧
    ∀ rot : Rotation,
      (which = 0 ∧ rot = s.rotation.active) ∨ (which = 1 ∧ rot = s.rotation.pendingRot) →
      exec (.readRotation r) s = .next
        (replied s (r.frame Kind.readRotation) .ok
          (byte rot.count
            ++ (List.finRange 16).flatMap (fun i => byte rot.slots[i].pattern.val
              ++ byte rot.slots[i].dwell ++ [rot.slots[i].direction.code]
              ++ byte rot.slots[i].timing.val)
            ++ bytesC s.rotation.version ++ [if s.rotation.swapWaiting then 1 else 0]))) ∧
  (∀ (r : Req) (s : State), r.payload = [] → Serving s (r.frame Kind.readNetMap) →
    exec (.readNetMap r) s = .next
      (replied s (r.frame Kind.readNetMap) .ok
        (bytesL s.survey.participants
          ++ [match s.survey.position with
            | some n => BitVec.ofNat 8 n.val
            | none => (0xFF : Byte)]
          ++ [(if s.survey.mapComplete then 1 else 0 : Byte)]
          ++ bytesL (lanesWhere fun n => s.survey.netMap[n].isSome)
          ++ (List.finRange 24).flatMap (fun n => match s.survey.netMap[n] with
            | some e => bytesL e.observedSet
            | none => ([0, 0, 0] : List Byte))
          ++ bytesC s.survey.firstCounter
          ++ [(if s.survey.referencePresent then 1 else 0 : Byte)]
          ++ bytesL (lanesWhere fun n => s.survey.reference[n].isSome)
          ++ (List.finRange 24).flatMap (fun n => match s.survey.reference[n] with
            | some l => bytesL l
            | none => ([0xFF, 0xFF, 0xFF] : List Byte))))) ∧
  ∀ (r : Req) (s : State), r.payload = [] → Serving s (r.frame Kind.readCapture) →
    let shown (c : Option CaptureRec) : List Byte :=
      match c with
      | some x => [1] ++ x.bytes
      | none => [0] ++ List.replicate 14 0xFF
    exec (.readCapture r) s = .next
      (replied s (r.frame Kind.readCapture) .ok
        (shown s.trigger.latest ++ shown s.trigger.previous ++ s.trigger.trgA.bytes
          ++ s.trigger.trgB.bytes
          ++ [if s.trigger.trgA.lastLevel then 1 else 0,
            if s.trigger.trgB.lastLevel then 1 else 0]))

/-! ## Invariants -/

/-- Every law of the device holds right after reset. -/
def Obligations.LawfulAtReset : Prop := Lawful State.reset

/-- Every step keeps the vector store's canonical form, FOLLOW banks' levels equal (R3), and the timing
sets and the step in progress in range (R40, R47). -/
def Obligations.StepKeepsStoreLanesAndTiming : Prop :=
  ∀ s t : State, step s = .next t →
    (StoreCanonical s → StoreCanonical t) ∧ (FollowLaw s → FollowLaw t) ∧
      (TimingLaw s → TimingLaw t)

/-- Every step keeps the laws of the link: the queues' bounds and reservations (R170, R172), empty queues
in start-up (R176), the mask's fixed bits (R173) and the framer's form (R169). -/
def Obligations.StepKeepsTheLinkLaws : Prop :=
  ∀ s t : State, step s = .next t →
    (QueueLaw s → QueueLaw t) ∧ (StartUpLaw s → StartUpLaw t) ∧ (MaskLaw s → MaskLaw t) ∧
      (FramerLaw s → FramerLaw t)

/-- Every step keeps the checker's laws: fewer quarantined lanes than the limit outside LOCKOUT (R137),
64 records at most in the log, and the counts' bounds (R134, R128). -/
def Obligations.StepKeepsTheCheckerLaws : Prop :=
  ∀ s t : State, step s = .next t →
    (QuarantineLaw s → QuarantineLaw t) ∧ (LogLaw s → LogLaw t) ∧ (CountLaw s → CountLaw t)

/-- Every step keeps the laws of the run: a swap waits only in a live rotation run (R67), the context
stack holds at most 4 frames and none without a run, the BASE frame at its bottom (R80). -/
def Obligations.StepKeepsTheRunLaws : Prop :=
  ∀ s t : State, step s = .next t → StackLaw s →
    StackLaw t ∧ (SwapLaw s → SwapLaw t)

/-- Every step keeps every law of the device at once: the store's extents apart (R21), every reference to
a defined pattern (R57), every frame at a position of its pass (R80, R59), the pacer and wait timer in
step with the engine state (R48, R53), and the rest. -/
def Obligations.StepKeepsEveryLaw : Prop :=
  ∀ s t : State, Lawful s → step s = .next t → Lawful t

end
end

