-- ==== Sys2Proof/Laws/Memory.lean ====
section
/-! SUPPORT. The vector store's memory: every operation keeps the canonical form, and what each record
reads as after it. -/

namespace Sys2Proof.Machine

/-- The empty memory is canonical. -/
theorem Memory.wf_nil : Memory.wf [] := ⟨List.Pairwise.nil, by simp⟩

/-- The tail of a canonical memory is canonical. -/
theorem Memory.wf_tail {c : Nat × VectorRec} {m : Memory} (h : Memory.wf (c :: m)) : m.wf :=
  ⟨(List.pairwise_cons.1 h.1).2, fun d hd => h.2 d (List.mem_cons_of_mem _ hd)⟩

/-- A record below every listed one is unlisted. -/
theorem Memory.read_of_lt {m : Memory} {a : Nat} (h : ∀ c ∈ m, a < c.1) :
    m.read a = VectorRec.blank := by
  induction m with
  | nil => rfl
  | cons c m ih =>
    obtain ⟨b, w⟩ := c
    have hb : a < b := h (b, w) (by simp)
    simp only [Memory.read, if_neg (Nat.ne_of_lt hb)]
    exact ih fun d hd => h d (List.mem_cons_of_mem _ hd)

/-- What a write lists lies among the written record and the listed ones. -/
theorem Memory.mem_write {m : Memory} {a : Nat} {v : VectorRec} {c : Nat × VectorRec}
    (h : c ∈ m.write a v) : (c = (a, v) ∧ v ≠ VectorRec.blank) ∨ c ∈ m := by
  induction m with
  | nil =>
    simp only [Memory.write] at h
    split at h
    · simp at h
    · next hv => left; exact ⟨by simpa using h, hv⟩
  | cons d m ih =>
    obtain ⟨b, w⟩ := d
    simp only [Memory.write] at h
    split at h
    · split at h
      · exact Or.inr h
      · next hv =>
        rcases List.mem_cons.1 h with h | h
        · exact Or.inl ⟨h, hv⟩
        · exact Or.inr h
    · split at h
      · split at h
        · exact Or.inr (List.mem_cons_of_mem _ h)
        · next hv =>
          rcases List.mem_cons.1 h with h | h
          · exact Or.inl ⟨h, hv⟩
          · exact Or.inr (List.mem_cons_of_mem _ h)
      · rcases List.mem_cons.1 h with h | h
        · exact Or.inr (by simp [h])
        · rcases ih h with h | h
          · exact Or.inl h
          · exact Or.inr (List.mem_cons_of_mem _ h)

/-- A write keeps the canonical form. -/
theorem Memory.write_wf {m : Memory} (h : m.wf) (a : Nat) (v : VectorRec) : (m.write a v).wf := by
  induction m with
  | nil =>
    simp only [Memory.write]
    split
    · exact Memory.wf_nil
    · next hv => exact ⟨by simp, by simpa using hv⟩
  | cons d m ih =>
    obtain ⟨b, w⟩ := d
    have hm := Memory.wf_tail h
    have hlt := (List.pairwise_cons.1 h.1).1
    simp only [Memory.write]
    split
    · next hab =>
      split
      · exact h
      · next hv =>
        refine ⟨List.pairwise_cons.2 ⟨?_, h.1⟩, ?_⟩
        · intro c hc
          rcases List.mem_cons.1 hc with rfl | hc
          · exact hab
          · exact Nat.lt_trans hab (hlt c hc)
        · intro c hc
          rcases List.mem_cons.1 hc with rfl | hc
          · exact hv
          · exact h.2 c hc
    · split
      · next hab =>
        split
        · exact hm
        · next hv =>
          refine ⟨List.pairwise_cons.2 ⟨?_, hm.1⟩, ?_⟩
          · intro c hc
            exact hab ▸ hlt c hc
          · intro c hc
            rcases List.mem_cons.1 hc with rfl | hc
            · exact hv
            · exact hm.2 c hc
      · next h1 h2 =>
        have hba : b < a := by omega
        refine ⟨List.pairwise_cons.2 ⟨?_, (ih hm).1⟩, ?_⟩
        · intro c hc
          rcases Memory.mem_write hc with ⟨rfl, _⟩ | hc
          · exact hba
          · exact hlt c hc
        · intro c hc
          rcases List.mem_cons.1 hc with rfl | hc
          · exact h.2 _ (by simp)
          · exact (ih hm).2 c hc

/-- What a record reads as after a write. -/
theorem Memory.read_write {m : Memory} (h : m.wf) (a b : Nat) (v : VectorRec) :
    (m.write a v).read b = if b = a then v else m.read b := by
  induction m with
  | nil =>
    by_cases hv : v = VectorRec.blank
    · subst hv; simp [Memory.write, Memory.read]
    · simp [Memory.write, Memory.read, hv]
  | cons d m ih =>
    obtain ⟨x, w⟩ := d
    have hm := Memory.wf_tail h
    have hlt := (List.pairwise_cons.1 h.1).1
    have hblank : ∀ y, y ≤ x → Memory.read m y = VectorRec.blank := fun y hy =>
      Memory.read_of_lt fun c hc => Nat.lt_of_le_of_lt hy (hlt c hc)
    by_cases h1 : a < x
    · by_cases hv : v = VectorRec.blank
      · subst hv
        simp only [Memory.write, if_pos h1, if_true]
        by_cases hb : b = a
        · subst hb
          simp [Memory.read, Nat.ne_of_lt h1, hblank b (Nat.le_of_lt h1)]
        · simp [hb]
      · simp only [Memory.write, if_pos h1, if_neg hv, Memory.read]
    · by_cases h2 : a = x
      · subst h2
        by_cases hv : v = VectorRec.blank
        · subst hv
          simp only [Memory.write, lt_irrefl, if_false, if_true, Memory.read]
          by_cases hb : b = a
          · subst hb; simpa using hblank b (Nat.le_refl _)
          · simp [hb]
        · simp only [Memory.write, lt_irrefl, if_false, if_true, if_neg hv, Memory.read]
          by_cases hb : b = a <;> simp [hb]
      · simp only [Memory.write, if_neg h1, if_neg h2, Memory.read]
        by_cases hb : b = x
        · subst hb
          simp [Ne.symm h2]
        · simp [hb, ih hm]

/-- Writing a list of records keeps the canonical form. -/
theorem Memory.writeAll_wf {m : Memory} (h : m.wf) (a : Nat) (vs : List VectorRec) :
    (m.writeAll a vs).wf := by
  induction vs generalizing m a with
  | nil => exact h
  | cons v vs ih => exact ih (Memory.write_wf h a v) (a + 1)

/-- What a record reads as after a list of writes from `a` up. -/
theorem Memory.read_writeAll {m : Memory} (h : m.wf) (a b : Nat) (vs : List VectorRec) :
    (m.writeAll a vs).read b =
      if a ≤ b then (vs[b - a]?).getD (m.read b) else m.read b := by
  induction vs generalizing m a with
  | nil => simp [Memory.writeAll]
  | cons v vs ih =>
    rw [Memory.writeAll, ih (Memory.write_wf h a v) (a + 1), Memory.read_write h]
    by_cases h1 : b = a
    · subst h1
      simp
    · by_cases h2 : a + 1 ≤ b
      · have h3 : b - a = (b - (a + 1)) + 1 := by omega
        have h4 : a ≤ b := by omega
        simp [h1, h2, h3, h4]
      · have h4 : ¬ a ≤ b := by omega
        simp [h1, h2, h4]

/-- Clearing records keeps the canonical form. -/
theorem Memory.clear_wf {m : Memory} (h : m.wf) (base n : Nat) : (m.clear base n).wf :=
  ⟨h.1.sublist List.filter_sublist, fun c hc => h.2 c (List.mem_filter.1 hc).1⟩

/-- What a record reads as after clearing `n` records from `base`. -/
theorem Memory.read_clear {m : Memory} (h : m.wf) (base n a : Nat) :
    (m.clear base n).read a =
      if base ≤ a ∧ a < base + n then VectorRec.blank else m.read a := by
  induction m with
  | nil => simp [Memory.clear, Memory.read]
  | cons d m ih =>
    obtain ⟨x, w⟩ := d
    have hm := Memory.wf_tail h
    have hlt := (List.pairwise_cons.1 h.1).1
    have ih := ih hm
    simp only [Memory.clear] at ih ⊢
    by_cases hx : base ≤ x ∧ x < base + n
    · have : (!(decide (base ≤ x) && decide (x < base + n))) = false := by simp [hx.1, hx.2]
      rw [List.filter_cons_of_neg (by simpa using this), ih]
      by_cases ha : a = x
      · subst ha; simp [hx]
      · simp [Memory.read, ha]
    · have : (!(decide (base ≤ x) && decide (x < base + n))) = true := by
        simp only [Bool.not_eq_true', Bool.and_eq_false_iff, decide_eq_false_iff_not]
        by_cases h1 : base ≤ x
        · right; exact fun h2 => hx ⟨h1, h2⟩
        · left; exact h1
      rw [List.filter_cons_of_pos (by simpa using this)]
      by_cases ha : a = x
      · subst ha; simp [Memory.read, hx]
      · rw [Memory.read, if_neg ha, ih, Memory.read, if_neg ha]

/-- A pack leaves the canonical form. -/
theorem Memory.relocated_wf (m : Memory) (plan : List PackMove) : (m.relocated plan).wf := by
  have key : ∀ (l acc : Memory), acc.wf →
      (l.foldl (fun acc c =>
        match relocate plan c.1 with
        | some a => acc.write a c.2
        | none => acc) acc).wf := by
    intro l
    induction l with
    | nil => intro acc h; exact h
    | cons c l ih =>
      intro acc h
      apply ih
      dsimp only
      split
      · exact Memory.write_wf h _ _
      · exact h
  exact key m [] Memory.wf_nil

end Sys2Proof.Machine
end

