-- ==== Sys2Proof/Laws/State.lean ====
section
/-! SUPPORT. One lemma per field per block-wise update of State, true by definition, so that no proof
unfolds a record update. -/

namespace Sys2Proof.Machine

variable (s : State)

/-! ## withPending -/

@[simp] theorem State.withPending_pending (x : List Instr) : (s.withPending x).pending = x := rfl
@[simp] theorem State.withPending_link (x : List Instr) : (s.withPending x).link = s.link := rfl
@[simp] theorem State.withPending_store (x : List Instr) : (s.withPending x).store = s.store := rfl
@[simp] theorem State.withPending_timing (x : List Instr) : (s.withPending x).timing = s.timing := rfl
@[simp] theorem State.withPending_rotation (x : List Instr) : (s.withPending x).rotation = s.rotation := rfl
@[simp] theorem State.withPending_engine (x : List Instr) : (s.withPending x).engine = s.engine := rfl
@[simp] theorem State.withPending_output (x : List Instr) : (s.withPending x).output = s.output := rfl
@[simp] theorem State.withPending_checker (x : List Instr) : (s.withPending x).checker = s.checker := rfl
@[simp] theorem State.withPending_survey (x : List Instr) : (s.withPending x).survey = s.survey := rfl
@[simp] theorem State.withPending_trigger (x : List Instr) : (s.withPending x).trigger = s.trigger := rfl
@[simp] theorem State.withPending_self : s.withPending s.pending = s := rfl
@[simp] theorem State.withPending_withPending (x y : List Instr) : (s.withPending x).withPending y = s.withPending y := rfl

/-! ## withLink -/

@[simp] theorem State.withLink_pending (x : Link) : (s.withLink x).pending = s.pending := rfl
@[simp] theorem State.withLink_link (x : Link) : (s.withLink x).link = x := rfl
@[simp] theorem State.withLink_store (x : Link) : (s.withLink x).store = s.store := rfl
@[simp] theorem State.withLink_timing (x : Link) : (s.withLink x).timing = s.timing := rfl
@[simp] theorem State.withLink_rotation (x : Link) : (s.withLink x).rotation = s.rotation := rfl
@[simp] theorem State.withLink_engine (x : Link) : (s.withLink x).engine = s.engine := rfl
@[simp] theorem State.withLink_output (x : Link) : (s.withLink x).output = s.output := rfl
@[simp] theorem State.withLink_checker (x : Link) : (s.withLink x).checker = s.checker := rfl
@[simp] theorem State.withLink_survey (x : Link) : (s.withLink x).survey = s.survey := rfl
@[simp] theorem State.withLink_trigger (x : Link) : (s.withLink x).trigger = s.trigger := rfl
@[simp] theorem State.withLink_self : s.withLink s.link = s := rfl
@[simp] theorem State.withLink_withLink (x y : Link) : (s.withLink x).withLink y = s.withLink y := rfl

/-! ## withStore -/

@[simp] theorem State.withStore_pending (x : Store) : (s.withStore x).pending = s.pending := rfl
@[simp] theorem State.withStore_link (x : Store) : (s.withStore x).link = s.link := rfl
@[simp] theorem State.withStore_store (x : Store) : (s.withStore x).store = x := rfl
@[simp] theorem State.withStore_timing (x : Store) : (s.withStore x).timing = s.timing := rfl
@[simp] theorem State.withStore_rotation (x : Store) : (s.withStore x).rotation = s.rotation := rfl
@[simp] theorem State.withStore_engine (x : Store) : (s.withStore x).engine = s.engine := rfl
@[simp] theorem State.withStore_output (x : Store) : (s.withStore x).output = s.output := rfl
@[simp] theorem State.withStore_checker (x : Store) : (s.withStore x).checker = s.checker := rfl
@[simp] theorem State.withStore_survey (x : Store) : (s.withStore x).survey = s.survey := rfl
@[simp] theorem State.withStore_trigger (x : Store) : (s.withStore x).trigger = s.trigger := rfl
@[simp] theorem State.withStore_self : s.withStore s.store = s := rfl
@[simp] theorem State.withStore_withStore (x y : Store) : (s.withStore x).withStore y = s.withStore y := rfl

/-! ## withTiming -/

@[simp] theorem State.withTiming_pending (x : Timing) : (s.withTiming x).pending = s.pending := rfl
@[simp] theorem State.withTiming_link (x : Timing) : (s.withTiming x).link = s.link := rfl
@[simp] theorem State.withTiming_store (x : Timing) : (s.withTiming x).store = s.store := rfl
@[simp] theorem State.withTiming_timing (x : Timing) : (s.withTiming x).timing = x := rfl
@[simp] theorem State.withTiming_rotation (x : Timing) : (s.withTiming x).rotation = s.rotation := rfl
@[simp] theorem State.withTiming_engine (x : Timing) : (s.withTiming x).engine = s.engine := rfl
@[simp] theorem State.withTiming_output (x : Timing) : (s.withTiming x).output = s.output := rfl
@[simp] theorem State.withTiming_checker (x : Timing) : (s.withTiming x).checker = s.checker := rfl
@[simp] theorem State.withTiming_survey (x : Timing) : (s.withTiming x).survey = s.survey := rfl
@[simp] theorem State.withTiming_trigger (x : Timing) : (s.withTiming x).trigger = s.trigger := rfl
@[simp] theorem State.withTiming_self : s.withTiming s.timing = s := rfl
@[simp] theorem State.withTiming_withTiming (x y : Timing) : (s.withTiming x).withTiming y = s.withTiming y := rfl

/-! ## withRotation -/

@[simp] theorem State.withRotation_pending (x : RotationUnit) : (s.withRotation x).pending = s.pending := rfl
@[simp] theorem State.withRotation_link (x : RotationUnit) : (s.withRotation x).link = s.link := rfl
@[simp] theorem State.withRotation_store (x : RotationUnit) : (s.withRotation x).store = s.store := rfl
@[simp] theorem State.withRotation_timing (x : RotationUnit) : (s.withRotation x).timing = s.timing := rfl
@[simp] theorem State.withRotation_rotation (x : RotationUnit) : (s.withRotation x).rotation = x := rfl
@[simp] theorem State.withRotation_engine (x : RotationUnit) : (s.withRotation x).engine = s.engine := rfl
@[simp] theorem State.withRotation_output (x : RotationUnit) : (s.withRotation x).output = s.output := rfl
@[simp] theorem State.withRotation_checker (x : RotationUnit) : (s.withRotation x).checker = s.checker := rfl
@[simp] theorem State.withRotation_survey (x : RotationUnit) : (s.withRotation x).survey = s.survey := rfl
@[simp] theorem State.withRotation_trigger (x : RotationUnit) : (s.withRotation x).trigger = s.trigger := rfl
@[simp] theorem State.withRotation_self : s.withRotation s.rotation = s := rfl
@[simp] theorem State.withRotation_withRotation (x y : RotationUnit) : (s.withRotation x).withRotation y = s.withRotation y := rfl

/-! ## withEngine -/

@[simp] theorem State.withEngine_pending (x : Engine) : (s.withEngine x).pending = s.pending := rfl
@[simp] theorem State.withEngine_link (x : Engine) : (s.withEngine x).link = s.link := rfl
@[simp] theorem State.withEngine_store (x : Engine) : (s.withEngine x).store = s.store := rfl
@[simp] theorem State.withEngine_timing (x : Engine) : (s.withEngine x).timing = s.timing := rfl
@[simp] theorem State.withEngine_rotation (x : Engine) : (s.withEngine x).rotation = s.rotation := rfl
@[simp] theorem State.withEngine_engine (x : Engine) : (s.withEngine x).engine = x := rfl
@[simp] theorem State.withEngine_output (x : Engine) : (s.withEngine x).output = s.output := rfl
@[simp] theorem State.withEngine_checker (x : Engine) : (s.withEngine x).checker = s.checker := rfl
@[simp] theorem State.withEngine_survey (x : Engine) : (s.withEngine x).survey = s.survey := rfl
@[simp] theorem State.withEngine_trigger (x : Engine) : (s.withEngine x).trigger = s.trigger := rfl
@[simp] theorem State.withEngine_self : s.withEngine s.engine = s := rfl
@[simp] theorem State.withEngine_withEngine (x y : Engine) : (s.withEngine x).withEngine y = s.withEngine y := rfl

/-! ## withOutput -/

@[simp] theorem State.withOutput_pending (x : Output) : (s.withOutput x).pending = s.pending := rfl
@[simp] theorem State.withOutput_link (x : Output) : (s.withOutput x).link = s.link := rfl
@[simp] theorem State.withOutput_store (x : Output) : (s.withOutput x).store = s.store := rfl
@[simp] theorem State.withOutput_timing (x : Output) : (s.withOutput x).timing = s.timing := rfl
@[simp] theorem State.withOutput_rotation (x : Output) : (s.withOutput x).rotation = s.rotation := rfl
@[simp] theorem State.withOutput_engine (x : Output) : (s.withOutput x).engine = s.engine := rfl
@[simp] theorem State.withOutput_output (x : Output) : (s.withOutput x).output = x := rfl
@[simp] theorem State.withOutput_checker (x : Output) : (s.withOutput x).checker = s.checker := rfl
@[simp] theorem State.withOutput_survey (x : Output) : (s.withOutput x).survey = s.survey := rfl
@[simp] theorem State.withOutput_trigger (x : Output) : (s.withOutput x).trigger = s.trigger := rfl
@[simp] theorem State.withOutput_self : s.withOutput s.output = s := rfl
@[simp] theorem State.withOutput_withOutput (x y : Output) : (s.withOutput x).withOutput y = s.withOutput y := rfl

/-! ## withChecker -/

@[simp] theorem State.withChecker_pending (x : Checker) : (s.withChecker x).pending = s.pending := rfl
@[simp] theorem State.withChecker_link (x : Checker) : (s.withChecker x).link = s.link := rfl
@[simp] theorem State.withChecker_store (x : Checker) : (s.withChecker x).store = s.store := rfl
@[simp] theorem State.withChecker_timing (x : Checker) : (s.withChecker x).timing = s.timing := rfl
@[simp] theorem State.withChecker_rotation (x : Checker) : (s.withChecker x).rotation = s.rotation := rfl
@[simp] theorem State.withChecker_engine (x : Checker) : (s.withChecker x).engine = s.engine := rfl
@[simp] theorem State.withChecker_output (x : Checker) : (s.withChecker x).output = s.output := rfl
@[simp] theorem State.withChecker_checker (x : Checker) : (s.withChecker x).checker = x := rfl
@[simp] theorem State.withChecker_survey (x : Checker) : (s.withChecker x).survey = s.survey := rfl
@[simp] theorem State.withChecker_trigger (x : Checker) : (s.withChecker x).trigger = s.trigger := rfl
@[simp] theorem State.withChecker_self : s.withChecker s.checker = s := rfl
@[simp] theorem State.withChecker_withChecker (x y : Checker) : (s.withChecker x).withChecker y = s.withChecker y := rfl

/-! ## withSurvey -/

@[simp] theorem State.withSurvey_pending (x : Survey) : (s.withSurvey x).pending = s.pending := rfl
@[simp] theorem State.withSurvey_link (x : Survey) : (s.withSurvey x).link = s.link := rfl
@[simp] theorem State.withSurvey_store (x : Survey) : (s.withSurvey x).store = s.store := rfl
@[simp] theorem State.withSurvey_timing (x : Survey) : (s.withSurvey x).timing = s.timing := rfl
@[simp] theorem State.withSurvey_rotation (x : Survey) : (s.withSurvey x).rotation = s.rotation := rfl
@[simp] theorem State.withSurvey_engine (x : Survey) : (s.withSurvey x).engine = s.engine := rfl
@[simp] theorem State.withSurvey_output (x : Survey) : (s.withSurvey x).output = s.output := rfl
@[simp] theorem State.withSurvey_checker (x : Survey) : (s.withSurvey x).checker = s.checker := rfl
@[simp] theorem State.withSurvey_survey (x : Survey) : (s.withSurvey x).survey = x := rfl
@[simp] theorem State.withSurvey_trigger (x : Survey) : (s.withSurvey x).trigger = s.trigger := rfl
@[simp] theorem State.withSurvey_self : s.withSurvey s.survey = s := rfl
@[simp] theorem State.withSurvey_withSurvey (x y : Survey) : (s.withSurvey x).withSurvey y = s.withSurvey y := rfl

/-! ## withTrigger -/

@[simp] theorem State.withTrigger_pending (x : Trigger) : (s.withTrigger x).pending = s.pending := rfl
@[simp] theorem State.withTrigger_link (x : Trigger) : (s.withTrigger x).link = s.link := rfl
@[simp] theorem State.withTrigger_store (x : Trigger) : (s.withTrigger x).store = s.store := rfl
@[simp] theorem State.withTrigger_timing (x : Trigger) : (s.withTrigger x).timing = s.timing := rfl
@[simp] theorem State.withTrigger_rotation (x : Trigger) : (s.withTrigger x).rotation = s.rotation := rfl
@[simp] theorem State.withTrigger_engine (x : Trigger) : (s.withTrigger x).engine = s.engine := rfl
@[simp] theorem State.withTrigger_output (x : Trigger) : (s.withTrigger x).output = s.output := rfl
@[simp] theorem State.withTrigger_checker (x : Trigger) : (s.withTrigger x).checker = s.checker := rfl
@[simp] theorem State.withTrigger_survey (x : Trigger) : (s.withTrigger x).survey = s.survey := rfl
@[simp] theorem State.withTrigger_trigger (x : Trigger) : (s.withTrigger x).trigger = x := rfl
@[simp] theorem State.withTrigger_self : s.withTrigger s.trigger = s := rfl
@[simp] theorem State.withTrigger_withTrigger (x y : Trigger) : (s.withTrigger x).withTrigger y = s.withTrigger y := rfl

end Sys2Proof.Machine
end

