-- ==== Sys2Proof/Laws/Ops.lean ====
section
/-! SUPPORT. What the shared operations do: lane sets, the outbound queue, notices, replies, and the
service of a request. -/

namespace Sys2Proof.Machine

open Safety

/-! ## Lane sets -/

@[simp] theorem hasLane_lanesWhere (p : Lane → Bool) (n : Lane) : hasLane (lanesWhere p) n = p n := by
  simp [hasLane, lanesWhere]

@[simp] theorem mem_lanesOf (l : LaneSet) (n : Lane) : n ∈ lanesOf l ↔ hasLane l n = true := by
  simp [lanesOf]

@[simp] theorem hasLane_and (a b : LaneSet) (n : Lane) :
    hasLane (a &&& b) n = (hasLane a n && hasLane b n) := by
  simp [hasLane]

@[simp] theorem hasLane_or (a b : LaneSet) (n : Lane) :
    hasLane (a ||| b) n = (hasLane a n || hasLane b n) := by
  simp [hasLane]

@[simp] theorem hasLane_not (a : LaneSet) (n : Lane) : hasLane (~~~a) n = !hasLane a n := by
  simp [hasLane]

@[simp] theorem hasLane_oneLane (m n : Lane) : hasLane (oneLane m) n = decide (n = m) := by
  simp [oneLane]

@[simp] theorem hasLane_zero (n : Lane) : hasLane 0 n = false := by simp [hasLane]

/-- Lane sets with the same lanes are equal. -/
theorem laneSet_ext {a b : LaneSet} (h : ∀ n : Lane, hasLane a n = hasLane b n) : a = b := by
  apply BitVec.eq_of_getLsbD_eq
  intro i hi
  exact h ⟨i, hi⟩

/-- A set within another has no more lanes. -/
theorem laneCount_le {a b : LaneSet} (h : ∀ n, hasLane a n = true → hasLane b n = true) :
    laneCount a ≤ laneCount b := by
  have : (lanesOf a).Sublist (lanesOf b) := List.monotone_filter_right _ h
  exact this.length_le

@[simp] theorem laneCount_zero : laneCount 0 = 0 := by
  rw [laneCount, List.length_eq_zero_iff, List.eq_nil_iff_forall_not_mem]
  intro n
  simp [hasLane]

/-! ## Notices (R172) -/

@[simp] theorem State.notice_pending (s : State) (k : NoticeKind) (p : List Byte) :
    (s.notice k p).pending = s.pending := rfl
@[simp] theorem State.notice_store (s : State) (k : NoticeKind) (p : List Byte) :
    (s.notice k p).store = s.store := rfl
@[simp] theorem State.notice_timing (s : State) (k : NoticeKind) (p : List Byte) :
    (s.notice k p).timing = s.timing := rfl
@[simp] theorem State.notice_rotation (s : State) (k : NoticeKind) (p : List Byte) :
    (s.notice k p).rotation = s.rotation := rfl
@[simp] theorem State.notice_engine (s : State) (k : NoticeKind) (p : List Byte) :
    (s.notice k p).engine = s.engine := rfl
@[simp] theorem State.notice_output (s : State) (k : NoticeKind) (p : List Byte) :
    (s.notice k p).output = s.output := rfl
@[simp] theorem State.notice_checker (s : State) (k : NoticeKind) (p : List Byte) :
    (s.notice k p).checker = s.checker := rfl
@[simp] theorem State.notice_survey (s : State) (k : NoticeKind) (p : List Byte) :
    (s.notice k p).survey = s.survey := rfl
@[simp] theorem State.notice_trigger (s : State) (k : NoticeKind) (p : List Byte) :
    (s.notice k p).trigger = s.trigger := rfl

@[simp] theorem State.notice_link (s : State) (k : NoticeKind) (p : List Byte) :
    (s.notice k p).link = s.link.notice k p := rfl

/-- All a notice can do: nothing, join the tail of the outbound queue, or set NOTICE_LOST (R172). -/
theorem Link.notice_cases (l : Link) (k : NoticeKind) (p : List Byte) :
    l.notice k p = l ∨
      (l.notices < Config.noticeCap ∧ 1 ≤ l.freeEntries ∧ l.notice k p = l.place (k.frame p)) ∨
      l.notice k p = { l with noticeLost := true } := by
  unfold Link.notice
  split
  · exact Or.inl rfl
  · split
    · next h =>
      simp only [Bool.and_eq_true, decide_eq_true_eq] at h
      exact Or.inr (Or.inl ⟨h.1, h.2, rfl⟩)
    · exact Or.inr (Or.inr rfl)

@[simp] theorem Link.notice_requests (l : Link) (k : NoticeKind) (p : List Byte) :
    (l.notice k p).requests = l.requests := by
  rcases l.notice_cases k p with h | ⟨_, _, h⟩ | h <;> simp [h, Link.place]

@[simp] theorem Link.notice_power (l : Link) (k : NoticeKind) (p : List Byte) :
    (l.notice k p).power = l.power := by
  rcases l.notice_cases k p with h | ⟨_, _, h⟩ | h <;> simp [h, Link.place]

@[simp] theorem Link.notice_framer (l : Link) (k : NoticeKind) (p : List Byte) :
    (l.notice k p).framer = l.framer := by
  rcases l.notice_cases k p with h | ⟨_, _, h⟩ | h <;> simp [h, Link.place]

@[simp] theorem Link.notice_baud (l : Link) (k : NoticeKind) (p : List Byte) :
    (l.notice k p).baud = l.baud := by
  rcases l.notice_cases k p with h | ⟨_, _, h⟩ | h <;> simp [h, Link.place]

@[simp] theorem Link.notice_noticeMask (l : Link) (k : NoticeKind) (p : List Byte) :
    (l.notice k p).noticeMask = l.noticeMask := by
  rcases l.notice_cases k p with h | ⟨_, _, h⟩ | h <;> simp [h, Link.place]

@[simp] theorem Link.notice_linkError (l : Link) (k : NoticeKind) (p : List Byte) :
    (l.notice k p).linkError = l.linkError := by
  rcases l.notice_cases k p with h | ⟨_, _, h⟩ | h <;> simp [h, Link.place]

/-- A notice's frame is of a notice's kind. -/
@[simp] theorem NoticeKind.frame_isNotice (k : NoticeKind) (p : List Byte) :
    (k.frame p).isNotice = true := by
  cases k <;> rfl

/-- A notice adds at most one frame, a notice, to the outbound queue. -/
theorem Link.notice_outbound (l : Link) (k : NoticeKind) (p : List Byte) :
    (l.notice k p).outbound = l.outbound ∨ (l.notice k p).outbound = l.outbound ++ [k.frame p] := by
  rcases l.notice_cases k p with h | ⟨_, _, h⟩ | h <;> rw [h]
  · exact Or.inl rfl
  · exact Or.inr rfl
  · exact Or.inl rfl

/-! ## Replies and the service of a request (R171) -/

@[simp] theorem answered_pending (f : LinkFrame) (w : Served) : (answered f w).pending = w.1.pending := rfl
@[simp] theorem answered_store (f : LinkFrame) (w : Served) : (answered f w).store = w.1.store := rfl
@[simp] theorem answered_timing (f : LinkFrame) (w : Served) : (answered f w).timing = w.1.timing := rfl
@[simp] theorem answered_rotation (f : LinkFrame) (w : Served) : (answered f w).rotation = w.1.rotation := rfl
@[simp] theorem answered_engine (f : LinkFrame) (w : Served) : (answered f w).engine = w.1.engine := rfl
@[simp] theorem answered_output (f : LinkFrame) (w : Served) : (answered f w).output = w.1.output := rfl
@[simp] theorem answered_checker (f : LinkFrame) (w : Served) : (answered f w).checker = w.1.checker := rfl
@[simp] theorem answered_survey (f : LinkFrame) (w : Served) : (answered f w).survey = w.1.survey := rfl
@[simp] theorem answered_trigger (f : LinkFrame) (w : Served) : (answered f w).trigger = w.1.trigger := rfl

@[simp] theorem answered_link (f : LinkFrame) (w : Served) :
    (answered f w).link = w.1.link.answer f w.2 := rfl

@[simp] theorem Link.answer_requests (l : Link) (f : LinkFrame) (r : Reply) :
    (l.answer f r).requests = l.requests.tail := rfl

@[simp] theorem Link.answer_outbound (l : Link) (f : LinkFrame) (r : Reply) :
    (l.answer f r).outbound = l.outbound ++ [f.reply r.status r.results] := rfl

/-- A refused request leaves all but the link as it was (R171). -/
theorem answered_refuse (f : LinkFrame) (st : Status) (s : State) :
    answered f (refuse st s) = replied s f st [] := rfl

/-- A request in service is worked out. -/
theorem serveFrame_serving {s : State} {f : LinkFrame} (h : Serving s f) (work : State → State) :
    serveFrame f work s = work s := by
  have h3 : s.link.oldestIs f = true := by simp [Link.oldestIs, h.oldest]
  have h1 : s.submit f = s := by simp [State.submit, h3]
  have h2 : s.serves f = true := by simp [State.serves, h.free, h3]
  simp [serveFrame, h.operating, h1, h2]

/-- A request in service is worked out and answered. -/
theorem serveRequest_serving {s : State} {f : LinkFrame} (h : Serving s f)
    (body : List Byte → State → Served) :
    serveRequest f body s = answered f (body f.payload s) := by
  rw [serveRequest, serveFrame_serving h]

/-- While a reset or start-up lasts a request row changes nothing. -/
theorem serveFrame_startUp {s : State} (h : s.operating = false) (f : LinkFrame)
    (work : State → State) : serveFrame f work s = s := by
  simp [serveFrame, h]

/-- What a request row can do: nothing, its frame's admission, or its work on a state that differs
from the one before in the link alone and whose next request is the frame. -/
theorem serveFrame_cases (s : State) (f : LinkFrame) (work : State → State) :
    serveFrame f work s = s ∨
      serveFrame f work s = s.withLink (s.link.completeFrame f) ∨
      (serveFrame f work s = work (s.submit f) ∧ Serving (s.submit f) f) := by
  unfold serveFrame
  by_cases ho : s.operating = true
  · simp only [ho]
    by_cases hs : (s.submit f).serves f = true
    · right; right
      simp only [hs, Bool.not_true, Bool.false_eq_true, if_false, if_true, true_and]
      simp only [State.serves, Bool.and_eq_true, Option.isNone_iff_eq_none, Link.oldestIs,
        decide_eq_true_eq] at hs
      refine ⟨?_, hs.1, hs.2⟩
      unfold State.submit
      split
      · exact ho
      · have : (s.link.completeFrame f).power = s.link.power := by
          unfold Link.completeFrame Link.admission Link.discard Link.place
          repeat' split
          all_goals rfl
        simpa [State.operating, this] using ho
    · simp only [hs, Bool.not_true, Bool.false_eq_true, if_false]
      unfold State.submit
      split
      · exact Or.inl rfl
      · exact Or.inr (Or.inl rfl)
  · left
    simp [Bool.eq_false_iff.2 ho]

@[simp] theorem State.submit_pending (s : State) (f : LinkFrame) : (s.submit f).pending = s.pending := by
  unfold State.submit; split <;> rfl
@[simp] theorem State.submit_store (s : State) (f : LinkFrame) : (s.submit f).store = s.store := by
  unfold State.submit; split <;> rfl
@[simp] theorem State.submit_timing (s : State) (f : LinkFrame) : (s.submit f).timing = s.timing := by
  unfold State.submit; split <;> rfl
@[simp] theorem State.submit_rotation (s : State) (f : LinkFrame) : (s.submit f).rotation = s.rotation := by
  unfold State.submit; split <;> rfl
@[simp] theorem State.submit_engine (s : State) (f : LinkFrame) : (s.submit f).engine = s.engine := by
  unfold State.submit; split <;> rfl
@[simp] theorem State.submit_output (s : State) (f : LinkFrame) : (s.submit f).output = s.output := by
  unfold State.submit; split <;> rfl
@[simp] theorem State.submit_checker (s : State) (f : LinkFrame) : (s.submit f).checker = s.checker := by
  unfold State.submit; split <;> rfl
@[simp] theorem State.submit_survey (s : State) (f : LinkFrame) : (s.submit f).survey = s.survey := by
  unfold State.submit; split <;> rfl
@[simp] theorem State.submit_trigger (s : State) (f : LinkFrame) : (s.submit f).trigger = s.trigger := by
  unfold State.submit; split <;> rfl

end Sys2Proof.Machine
end

