-- ==== Sys2Proof/Laws/PerInstr.lean ====
section
/-! SUPPORT. Per command: the frame of a request row is a request's (R170), and the row that the
request kind table gives that frame's kind is one of the same frame (R171, R178). -/

namespace Sys2Proof.Laws.RequestKind

/-- A well-formed row's frame, if it has one, has a request's kind, and the row that serves such a
frame has that frame. -/
def Statement (i : Instr) : Prop :=
  i.kindWf = true → ∀ f, i.frame? = some f →
    isRequestKind f.kind = true ∧ ∀ a, (Instr.ofFrame a f).frame? = some f

/-- A row whose frame has a request's kind that the table gives to the row. -/
theorem of_row {i : Instr} {f : LinkFrame} (h : i.frame? = some f)
    (hk : isRequestKind f.kind = true) (ho : ∀ a, (Instr.ofFrame a f).frame? = some f) :
    Statement i := by
  intro _ g hg
  rw [h] at hg
  cases hg
  exact ⟨hk, ho⟩

/-- A row that is no request. -/
theorem of_event {i : Instr} (h : i.frame? = none) : Statement i := by
  intro _ g hg
  rw [h] at hg
  cases hg

theorem fullReset (straps : BitVec 2) : Statement (Instr.fullReset straps) :=
  of_event rfl

theorem startUpEnd (levelA levelB : Bool) : Statement (Instr.startUpEnd levelA levelB) :=
  of_event rfl

theorem frameComplete (f : LinkFrame) : Statement (Instr.frameComplete f) :=
  of_event rfl

theorem byteGapTimeout : Statement Instr.byteGapTimeout :=
  of_event rfl

theorem frameSent : Statement Instr.frameSent :=
  of_event rfl

theorem badKind (f : LinkFrame) : Statement (Instr.badKind f) := by
  intro hk g hg
  obtain rfl : f = g := Option.some.inj hg
  simp only [Instr.kindWf, Bool.and_eq_true] at hk
  refine ⟨hk.1, fun a => ?_⟩
  have h := hk.2
  simp only [isKnownKind, knownKinds, List.contains_cons, List.contains_nil, Bool.not_eq_true',
    Bool.or_eq_false_iff, beq_eq_false_iff_ne] at h
  simp only [Instr.ofFrame, h, if_false]
  rfl

theorem status (r : Req) : Statement (Instr.status r) :=
  of_row (f := r.frame Kind.status) rfl rfl fun _ => rfl

theorem position (r : Req) : Statement (Instr.position r) :=
  of_row (f := r.frame Kind.position) rfl rfl fun _ => rfl

theorem resetEngine (r : Req) : Statement (Instr.resetEngine r) :=
  of_row (f := r.frame Kind.resetEngine) rfl rfl fun _ => rfl

theorem noticeMask (r : Req) : Statement (Instr.noticeMask r) :=
  of_row (f := r.frame Kind.noticeMask) rfl rfl fun _ => rfl

theorem setBank (r : Req) : Statement (Instr.setBank r) :=
  of_row (f := r.frame Kind.setBank) rfl rfl fun _ => rfl

theorem setIdlePolicy (r : Req) : Statement (Instr.setIdlePolicy r) :=
  of_row (f := r.frame Kind.setIdlePolicy) rfl rfl fun _ => rfl

theorem stageStatic (r : Req) : Statement (Instr.stageStatic r) :=
  of_row (f := r.frame Kind.stageStatic) rfl rfl fun _ => rfl

theorem applyStatic (r : Req) : Statement (Instr.applyStatic r) :=
  of_row (f := r.frame Kind.applyStatic) rfl rfl fun _ => rfl

theorem readLanes (r : Req) (a : Assembly) : Statement (Instr.readLanes r a) :=
  of_row (f := r.frame Kind.readLanes) rfl rfl fun _ => rfl

theorem definePattern (r : Req) : Statement (Instr.definePattern r) :=
  of_row (f := r.frame Kind.definePattern) rfl rfl fun _ => rfl

theorem defineGenerator (r : Req) : Statement (Instr.defineGenerator r) :=
  of_row (f := r.frame Kind.defineGenerator) rfl rfl fun _ => rfl

theorem writeVectors (r : Req) : Statement (Instr.writeVectors r) :=
  of_row (f := r.frame Kind.writeVectors) rfl rfl fun _ => rfl

theorem readVectors (r : Req) : Statement (Instr.readVectors r) :=
  of_row (f := r.frame Kind.readVectors) rfl rfl fun _ => rfl

theorem deletePattern (r : Req) : Statement (Instr.deletePattern r) :=
  of_row (f := r.frame Kind.deletePattern) rfl rfl fun _ => rfl

theorem listPatterns (r : Req) : Statement (Instr.listPatterns r) :=
  of_row (f := r.frame Kind.listPatterns) rfl rfl fun _ => rfl

theorem packStore (r : Req) : Statement (Instr.packStore r) :=
  of_row (f := r.frame Kind.packStore) rfl rfl fun _ => rfl

theorem packComplete : Statement Instr.packComplete :=
  of_event rfl

theorem setTiming (r : Req) : Statement (Instr.setTiming r) :=
  of_row (f := r.frame Kind.setTiming) rfl rfl fun _ => rfl

theorem readTiming (r : Req) : Statement (Instr.readTiming r) :=
  of_row (f := r.frame Kind.readTiming) rfl rfl fun _ => rfl

theorem editSlot (r : Req) : Statement (Instr.editSlot r) :=
  of_row (f := r.frame Kind.editSlot) rfl rfl fun _ => rfl

theorem setSlotCount (r : Req) : Statement (Instr.setSlotCount r) :=
  of_row (f := r.frame Kind.setSlotCount) rfl rfl fun _ => rfl

theorem readRotation (r : Req) : Statement (Instr.readRotation r) :=
  of_row (f := r.frame Kind.readRotation) rfl rfl fun _ => rfl

theorem commitRotation (r : Req) : Statement (Instr.commitRotation r) :=
  of_row (f := r.frame Kind.commitRotation) rfl rfl fun _ => rfl

theorem withdrawCommit (r : Req) : Statement (Instr.withdrawCommit r) :=
  of_row (f := r.frame Kind.withdrawCommit) rfl rfl fun _ => rfl

theorem arm (r : Req) : Statement (Instr.arm r) :=
  of_row (f := r.frame Kind.arm) rfl rfl fun _ => rfl

theorem disarm (r : Req) : Statement (Instr.disarm r) :=
  of_row (f := r.frame Kind.disarm) rfl rfl fun _ => rfl

theorem start (r : Req) : Statement (Instr.start r) :=
  of_row (f := r.frame Kind.start) rfl rfl fun _ => rfl

theorem stop (r : Req) : Statement (Instr.stop r) :=
  of_row (f := r.frame Kind.stop) rfl rfl fun _ => rfl

theorem hold (r : Req) : Statement (Instr.hold r) :=
  of_row (f := r.frame Kind.hold) rfl rfl fun _ => rfl

theorem continueRun (r : Req) : Statement (Instr.continueRun r) :=
  of_row (f := r.frame Kind.continueRun) rfl rfl fun _ => rfl

theorem release (r : Req) : Statement (Instr.release r) :=
  of_row (f := r.frame Kind.release) rfl rfl fun _ => rfl

theorem advance (r : Req) : Statement (Instr.advance r) :=
  of_row (f := r.frame Kind.advance) rfl rfl fun _ => rfl

theorem splice (r : Req) : Statement (Instr.splice r) :=
  of_row (f := r.frame Kind.splice) rfl rfl fun _ => rfl

theorem suspend (r : Req) : Statement (Instr.suspend r) :=
  of_row (f := r.frame Kind.suspend) rfl rfl fun _ => rfl

theorem resume (r : Req) : Statement (Instr.resume r) :=
  of_row (f := r.frame Kind.resume) rfl rfl fun _ => rfl

theorem readSnapshot (r : Req) : Statement (Instr.readSnapshot r) :=
  of_row (f := r.frame Kind.readSnapshot) rfl rfl fun _ => rfl

theorem loadSnapshot (r : Req) : Statement (Instr.loadSnapshot r) :=
  of_row (f := r.frame Kind.loadSnapshot) rfl rfl fun _ => rfl

theorem discardSnapshot (r : Req) : Statement (Instr.discardSnapshot r) :=
  of_row (f := r.frame Kind.discardSnapshot) rfl rfl fun _ => rfl

theorem setCheck (r : Req) : Statement (Instr.setCheck r) :=
  of_row (f := r.frame Kind.setCheck) rfl rfl fun _ => rfl

theorem clearLane (r : Req) : Statement (Instr.clearLane r) :=
  of_row (f := r.frame Kind.clearLane) rfl rfl fun _ => rfl

theorem readFails (r : Req) : Statement (Instr.readFails r) :=
  of_row (f := r.frame Kind.readFails) rfl rfl fun _ => rfl

theorem readCounts (r : Req) : Statement (Instr.readCounts r) :=
  of_row (f := r.frame Kind.readCounts) rfl rfl fun _ => rfl

theorem survey (r : Req) : Statement (Instr.survey r) :=
  of_row (f := r.frame Kind.survey) rfl rfl fun _ => rfl

theorem readNetMap (r : Req) : Statement (Instr.readNetMap r) :=
  of_row (f := r.frame Kind.readNetMap) rfl rfl fun _ => rfl

theorem loadReference (r : Req) : Statement (Instr.loadReference r) :=
  of_row (f := r.frame Kind.loadReference) rfl rfl fun _ => rfl

theorem adoptReference (r : Req) : Statement (Instr.adoptReference r) :=
  of_row (f := r.frame Kind.adoptReference) rfl rfl fun _ => rfl

theorem clearReference (r : Req) : Statement (Instr.clearReference r) :=
  of_row (f := r.frame Kind.clearReference) rfl rfl fun _ => rfl

theorem setTrigger (r : Req) : Statement (Instr.setTrigger r) :=
  of_row (f := r.frame Kind.setTrigger) rfl rfl fun _ => rfl

theorem capture (r : Req) : Statement (Instr.capture r) :=
  of_row (f := r.frame Kind.capture) rfl rfl fun _ => rfl

theorem readCapture (r : Req) : Statement (Instr.readCapture r) :=
  of_row (f := r.frame Kind.readCapture) rfl rfl fun _ => rfl

theorem triggerLevelChange (input : TrigInput) : Statement (Instr.triggerLevelChange input) :=
  of_event rfl

theorem startTrigger (input : TrigInput) : Statement (Instr.startTrigger input) :=
  of_event rfl

theorem stopTrigger (input : TrigInput) : Statement (Instr.stopTrigger input) :=
  of_event rfl

theorem releaseTrigger (input : TrigInput) : Statement (Instr.releaseTrigger input) :=
  of_event rfl

theorem advanceTrigger (input : TrigInput) : Statement (Instr.advanceTrigger input) :=
  of_event rfl

theorem captureTrigger (input : TrigInput) : Statement (Instr.captureTrigger input) :=
  of_event rfl

theorem spliceTrigger (input : TrigInput) : Statement (Instr.spliceTrigger input) :=
  of_event rfl

theorem strobe (a : Assembly) : Statement (Instr.strobe a) :=
  of_event rfl

theorem stepEnd : Statement Instr.stepEnd :=
  of_event rfl

theorem waitTimeout : Statement Instr.waitTimeout :=
  of_event rfl

theorem surveyStrobe (a : Assembly) : Statement (Instr.surveyStrobe a) :=
  of_event rfl

theorem surveyStepEnd : Statement Instr.surveyStepEnd :=
  of_event rfl

theorem characterReceived (b : Byte) (stopBit : Bool) : Statement (Instr.characterReceived b stopBit) :=
  of_event rfl

theorem resetnDeasserted (straps : BitVec 2) : Statement (Instr.resetnDeasserted straps) :=
  of_event rfl

end Sys2Proof.Laws.RequestKind
end

