-- ==== Sys2Proof/Laws/Run.lean ====
section
/-! SUPPORT. What the operations of a run change and what they leave: the swap, the run end, the step
start, the moves, the step end and the strobe. -/

namespace Sys2Proof.Machine

open Safety

/-! ## The swap (R66) -/

@[simp] theorem swapNow_pending (m : SwapManner) (s : State) : (swapNow m s).pending = s.pending := rfl
@[simp] theorem swapNow_store (m : SwapManner) (s : State) : (swapNow m s).store = s.store := rfl
@[simp] theorem swapNow_timing (m : SwapManner) (s : State) : (swapNow m s).timing = s.timing := rfl
@[simp] theorem swapNow_engine (m : SwapManner) (s : State) : (swapNow m s).engine = s.engine := rfl
@[simp] theorem swapNow_output (m : SwapManner) (s : State) : (swapNow m s).output = s.output := rfl
@[simp] theorem swapNow_checker (m : SwapManner) (s : State) : (swapNow m s).checker = s.checker := rfl
@[simp] theorem swapNow_survey (m : SwapManner) (s : State) : (swapNow m s).survey = s.survey := rfl
@[simp] theorem swapNow_trigger (m : SwapManner) (s : State) : (swapNow m s).trigger = s.trigger := rfl

@[simp] theorem swapNow_requests (m : SwapManner) (s : State) :
    (swapNow m s).link.requests = s.link.requests := Link.notice_requests _ _ _

@[simp] theorem swapIfWaiting_pending (m : SwapManner) (s : State) :
    (swapIfWaiting m s).pending = s.pending := by
  unfold swapIfWaiting; split <;> simp
@[simp] theorem swapIfWaiting_store (m : SwapManner) (s : State) :
    (swapIfWaiting m s).store = s.store := by
  unfold swapIfWaiting; split <;> simp
@[simp] theorem swapIfWaiting_timing (m : SwapManner) (s : State) :
    (swapIfWaiting m s).timing = s.timing := by
  unfold swapIfWaiting; split <;> simp
@[simp] theorem swapIfWaiting_engine (m : SwapManner) (s : State) :
    (swapIfWaiting m s).engine = s.engine := by
  unfold swapIfWaiting; split <;> simp
@[simp] theorem swapIfWaiting_output (m : SwapManner) (s : State) :
    (swapIfWaiting m s).output = s.output := by
  unfold swapIfWaiting; split <;> simp
@[simp] theorem swapIfWaiting_checker (m : SwapManner) (s : State) :
    (swapIfWaiting m s).checker = s.checker := by
  unfold swapIfWaiting; split <;> simp
@[simp] theorem swapIfWaiting_survey (m : SwapManner) (s : State) :
    (swapIfWaiting m s).survey = s.survey := by
  unfold swapIfWaiting; split <;> simp
@[simp] theorem swapIfWaiting_trigger (m : SwapManner) (s : State) :
    (swapIfWaiting m s).trigger = s.trigger := by
  unfold swapIfWaiting; split <;> simp

@[simp] theorem swapIfWaiting_requests (m : SwapManner) (s : State) :
    (swapIfWaiting m s).link.requests = s.link.requests := by
  unfold swapIfWaiting; split <;> simp

/-- After it no swap waits (R67). -/
@[simp] theorem swapIfWaiting_swapWaiting (m : SwapManner) (s : State) :
    (swapIfWaiting m s).rotation.swapWaiting = false := by
  unfold swapIfWaiting
  split
  · rfl
  · next h => simpa using h

/-- The pending rotation keeps its contents (R66). -/
@[simp] theorem swapIfWaiting_pendingRot (m : SwapManner) (s : State) :
    (swapIfWaiting m s).rotation.pendingRot = s.rotation.pendingRot := by
  unfold swapIfWaiting
  split <;> rfl

/-- The active rotation after it: the pending one if a swap waited (R66). -/
theorem swapIfWaiting_active (m : SwapManner) (s : State) :
    (swapIfWaiting m s).rotation.active =
      if s.rotation.swapWaiting then s.rotation.pendingRot else s.rotation.active := by
  unfold swapIfWaiting
  split <;> rfl

/-! ## The run end (R94) -/

@[simp] theorem runEnd_pending (c : StopCause) (s : State) : (runEnd c s).pending = s.pending := by
  simp [runEnd, closeRun, recordEnd, endSteps]
@[simp] theorem runEnd_store (c : StopCause) (s : State) : (runEnd c s).store = s.store := by
  simp [runEnd, closeRun, recordEnd, endSteps]
@[simp] theorem runEnd_checker (c : StopCause) (s : State) : (runEnd c s).checker = s.checker := by
  simp [runEnd, closeRun, recordEnd, endSteps]
@[simp] theorem runEnd_trigger (c : StopCause) (s : State) : (runEnd c s).trigger = s.trigger := by
  simp [runEnd, closeRun, recordEnd, endSteps]

@[simp] theorem runEnd_requests (c : StopCause) (s : State) :
    (runEnd c s).link.requests = s.link.requests := by
  simp [runEnd, closeRun, recordEnd, endSteps]

/-- The engine after a run end (R94 steps 3, 5, 7). -/
theorem runEnd_engine (c : StopCause) (s : State) :
    (runEnd c s).engine =
      { s.engine.clearRun with
        lastStop := c
        verdict := verdictOf c s.checker.failingSteps s.engine.quarantineInRun
          s.engine.continuityFail
        mode := c.modeAfter } := by
  simp [runEnd, closeRun, recordEnd, endSteps, Engine.clearRun]

/-- The lanes after a run end (R94 step 2). -/
theorem runEnd_output (c : StopCause) (s : State) :
    (runEnd c s).output = if c.keepsLevels then s.output else s.output.applyIdle := by
  simp [runEnd, closeRun, recordEnd, endSteps]

/-- The pacer and the wait timer after a run end (R94 step 1). -/
theorem runEnd_timing (c : StopCause) (s : State) :
    (runEnd c s).timing = s.timing.stopPacer.stopWait := by
  simp [runEnd, closeRun, recordEnd, endSteps]

/-- The survey unit after a run end: its position is absent (R152). -/
theorem runEnd_survey (c : StopCause) (s : State) :
    (runEnd c s).survey = { s.survey with position := none } := by
  simp [runEnd, closeRun, recordEnd, endSteps]

/-- The rotations after a run end: a waiting swap has been carried out (R94 step 4). -/
theorem runEnd_rotation (c : StopCause) (s : State) :
    (runEnd c s).rotation = (swapIfWaiting .runEnd s).rotation := by
  by_cases h : s.rotation.swapWaiting = true <;>
    simp [runEnd, closeRun, recordEnd, endSteps, swapIfWaiting, h, swapNow]

@[simp] theorem modeAfter_isLive (c : StopCause) : c.modeAfter.isLive = false := by
  cases c <;> rfl

@[simp] theorem runEnd_isLive (c : StopCause) (s : State) : (runEnd c s).engine.mode.isLive = false := by
  simp [runEnd_engine]

/-- Entry into LOCKOUT is the run end with one notice more (R97). -/
theorem enterLockout_pending (s : State) : (enterLockout s).pending = (runEnd .lockout s).pending := rfl
theorem enterLockout_store (s : State) : (enterLockout s).store = (runEnd .lockout s).store := rfl
theorem enterLockout_checker (s : State) : (enterLockout s).checker = (runEnd .lockout s).checker := rfl
theorem enterLockout_trigger (s : State) : (enterLockout s).trigger = (runEnd .lockout s).trigger := rfl
theorem enterLockout_rotation (s : State) : (enterLockout s).rotation = (runEnd .lockout s).rotation := rfl
theorem enterLockout_engine (s : State) : (enterLockout s).engine = (runEnd .lockout s).engine := rfl
theorem enterLockout_output (s : State) : (enterLockout s).output = (runEnd .lockout s).output := rfl
theorem enterLockout_timing (s : State) : (enterLockout s).timing = (runEnd .lockout s).timing := rfl
theorem enterLockout_survey (s : State) : (enterLockout s).survey = (runEnd .lockout s).survey := rfl

@[simp] theorem enterLockout_requests (s : State) :
    (enterLockout s).link.requests = s.link.requests := by
  simp [enterLockout]

/-! ## The step start (R85) -/

@[simp] theorem beginStep_pending (f : RunFrame) (v : VectorRec) (s : State) :
    (beginStep f v s).pending = s.pending := by
  simp only [beginStep]; split <;> rfl
@[simp] theorem beginStep_store (f : RunFrame) (v : VectorRec) (s : State) :
    (beginStep f v s).store = s.store := by
  simp only [beginStep]; split <;> rfl
@[simp] theorem beginStep_rotation (f : RunFrame) (v : VectorRec) (s : State) :
    (beginStep f v s).rotation = s.rotation := by
  simp only [beginStep]; split <;> rfl
@[simp] theorem beginStep_checker (f : RunFrame) (v : VectorRec) (s : State) :
    (beginStep f v s).checker = s.checker := by
  simp only [beginStep]; split <;> rfl
@[simp] theorem beginStep_survey (f : RunFrame) (v : VectorRec) (s : State) :
    (beginStep f v s).survey = s.survey := by
  simp only [beginStep]; split <;> rfl
@[simp] theorem beginStep_trigger (f : RunFrame) (v : VectorRec) (s : State) :
    (beginStep f v s).trigger = s.trigger := by
  simp only [beginStep]; split <;> rfl

@[simp] theorem beginStep_requests (f : RunFrame) (v : VectorRec) (s : State) :
    (beginStep f v s).link.requests = s.link.requests := by
  simp only [beginStep]; split <;> simp

/-- The engine after a step starts: RUNNING, the rest as it was (R85 step 3). -/
theorem beginStep_engine (f : RunFrame) (v : VectorRec) (s : State) :
    (beginStep f v s).engine = { s.engine with mode := .running } := by
  simp only [beginStep]; split <;> rfl

/-- The lanes after a step starts (R4). -/
theorem beginStep_output (f : RunFrame) (v : VectorRec) (s : State) :
    (beginStep f v s).output = s.output.latchedCopy := by
  simp only [beginStep]; split <;> rfl

/-- The pacer after a step starts (R47). -/
theorem beginStep_timing (f : RunFrame) (v : VectorRec) (s : State) :
    (beginStep f v s).timing = s.timing.stopWait.startPacer f.timing := by
  simp only [beginStep]; split <;> rfl

@[simp] theorem consumeRelease_pending (v : VectorRec) (s : State) :
    (consumeRelease v s).pending = s.pending := by
  unfold consumeRelease; split <;> rfl
@[simp] theorem consumeRelease_link (v : VectorRec) (s : State) :
    (consumeRelease v s).link = s.link := by
  unfold consumeRelease; split <;> rfl
@[simp] theorem consumeRelease_store (v : VectorRec) (s : State) :
    (consumeRelease v s).store = s.store := by
  unfold consumeRelease; split <;> rfl
@[simp] theorem consumeRelease_timing (v : VectorRec) (s : State) :
    (consumeRelease v s).timing = s.timing := by
  unfold consumeRelease; split <;> rfl
@[simp] theorem consumeRelease_rotation (v : VectorRec) (s : State) :
    (consumeRelease v s).rotation = s.rotation := by
  unfold consumeRelease; split <;> rfl
@[simp] theorem consumeRelease_output (v : VectorRec) (s : State) :
    (consumeRelease v s).output = s.output := by
  unfold consumeRelease; split <;> rfl
@[simp] theorem consumeRelease_checker (v : VectorRec) (s : State) :
    (consumeRelease v s).checker = s.checker := by
  unfold consumeRelease; split <;> rfl
@[simp] theorem consumeRelease_survey (v : VectorRec) (s : State) :
    (consumeRelease v s).survey = s.survey := by
  unfold consumeRelease; split <;> rfl
@[simp] theorem consumeRelease_trigger (v : VectorRec) (s : State) :
    (consumeRelease v s).trigger = s.trigger := by
  unfold consumeRelease; split <;> rfl

/-- The engine after a release is consumed: the latch is clear if the record carries WAIT. -/
theorem consumeRelease_engine (v : VectorRec) (s : State) :
    (consumeRelease v s).engine =
      { s.engine with releaseLatch := if v.wait then false else s.engine.releaseLatch } := by
  unfold consumeRelease; split <;> simp [*]

@[simp] theorem stepStart_pending (s : State) : (stepStart s).pending = s.pending := by
  unfold stepStart; split; · rfl
  dsimp only; split <;> simp [enterWaiting, stageStep]
@[simp] theorem stepStart_store (s : State) : (stepStart s).store = s.store := by
  unfold stepStart; split; · rfl
  dsimp only; split <;> simp [enterWaiting, stageStep]
@[simp] theorem stepStart_rotation (s : State) : (stepStart s).rotation = s.rotation := by
  unfold stepStart; split; · rfl
  dsimp only; split <;> simp [enterWaiting, stageStep]
@[simp] theorem stepStart_checker (s : State) : (stepStart s).checker = s.checker := by
  unfold stepStart; split; · rfl
  dsimp only; split <;> simp [enterWaiting, stageStep]
@[simp] theorem stepStart_survey (s : State) : (stepStart s).survey = s.survey := by
  unfold stepStart; split; · rfl
  dsimp only; split <;> simp [enterWaiting, stageStep]
@[simp] theorem stepStart_trigger (s : State) : (stepStart s).trigger = s.trigger := by
  unfold stepStart; split; · rfl
  dsimp only; split <;> simp [enterWaiting, stageStep]

@[simp] theorem stepStart_requests (s : State) :
    (stepStart s).link.requests = s.link.requests := by
  unfold stepStart; split; · rfl
  dsimp only; split <;> simp [enterWaiting, stageStep]

/-- What a step start leaves of the engine: all but the mode, the kept record and the release latch. -/
theorem stepStart_engine (s : State) :
    ∃ m v b, (stepStart s).engine =
      { s.engine with mode := m, stepRecord := v, releaseLatch := b } := by
  unfold stepStart
  split
  · exact ⟨s.engine.mode, s.engine.stepRecord, s.engine.releaseLatch, rfl⟩
  · dsimp only
    split
    · exact ⟨.waiting, _, s.engine.releaseLatch, rfl⟩
    · exact ⟨.running, _, _, by rw [beginStep_engine, consumeRelease_engine]; rfl⟩

/-- With a live frame, a step start leaves the engine WAITING or RUNNING (R85). -/
theorem stepStart_mode {s : State} {f : RunFrame} (h : s.engine.live = some f) :
    (stepStart s).engine.mode = .waiting ∨ (stepStart s).engine.mode = .running := by
  unfold stepStart
  rw [h]
  dsimp only
  split
  · exact Or.inl rfl
  · right; rw [beginStep_engine]

@[simp] theorem startWaitingStep_pending (s : State) : (startWaitingStep s).pending = s.pending := by
  unfold startWaitingStep; split <;> simp
@[simp] theorem startWaitingStep_store (s : State) : (startWaitingStep s).store = s.store := by
  unfold startWaitingStep; split <;> simp
@[simp] theorem startWaitingStep_rotation (s : State) : (startWaitingStep s).rotation = s.rotation := by
  unfold startWaitingStep; split <;> simp
@[simp] theorem startWaitingStep_checker (s : State) : (startWaitingStep s).checker = s.checker := by
  unfold startWaitingStep; split <;> simp
@[simp] theorem startWaitingStep_survey (s : State) : (startWaitingStep s).survey = s.survey := by
  unfold startWaitingStep; split <;> simp
@[simp] theorem startWaitingStep_trigger (s : State) : (startWaitingStep s).trigger = s.trigger := by
  unfold startWaitingStep; split <;> simp

@[simp] theorem startWaitingStep_requests (s : State) :
    (startWaitingStep s).link.requests = s.link.requests := by
  unfold startWaitingStep; split <;> simp

/-! ## Moves and the step end (R82, R87) -/

@[simp] theorem settle_pending (m : Moved) (s : State) : (settle m s).pending = s.pending := by
  unfold settle; split; · rfl
  dsimp only; split
  · simp
  · simp [State.putFrames]
@[simp] theorem settle_store (m : Moved) (s : State) : (settle m s).store = s.store := by
  unfold settle; split; · rfl
  dsimp only; split
  · simp
  · simp [State.putFrames]
@[simp] theorem settle_checker (m : Moved) (s : State) : (settle m s).checker = s.checker := by
  unfold settle; split; · rfl
  dsimp only; split
  · simp
  · simp [State.putFrames]
@[simp] theorem settle_trigger (m : Moved) (s : State) : (settle m s).trigger = s.trigger := by
  unfold settle; split; · rfl
  dsimp only; split
  · simp
  · simp [State.putFrames]
@[simp] theorem settle_requests (m : Moved) (s : State) :
    (settle m s).link.requests = s.link.requests := by
  unfold settle; split; · rfl
  dsimp only; split
  · simp
  · simp [State.putFrames]
@[simp] theorem goOn_pending (s : State) : (goOn s).pending = s.pending := by
  unfold goOn; split <;> simp
@[simp] theorem goOn_store (s : State) : (goOn s).store = s.store := by
  unfold goOn; split <;> simp
@[simp] theorem goOn_checker (s : State) : (goOn s).checker = s.checker := by
  unfold goOn; split <;> simp
@[simp] theorem goOn_trigger (s : State) : (goOn s).trigger = s.trigger := by
  unfold goOn; split <;> simp
@[simp] theorem goOn_requests (s : State) :
    (goOn s).link.requests = s.link.requests := by
  unfold goOn; split <;> simp
@[simp] theorem takePending_pending (x : Splice) (s : State) : (takePending x s).pending = s.pending := by
  unfold takePending; split <;> simp
@[simp] theorem takePending_store (x : Splice) (s : State) : (takePending x s).store = s.store := by
  unfold takePending; split <;> simp
@[simp] theorem takePending_checker (x : Splice) (s : State) : (takePending x s).checker = s.checker := by
  unfold takePending; split <;> simp
@[simp] theorem takePending_trigger (x : Splice) (s : State) : (takePending x s).trigger = s.trigger := by
  unfold takePending; split <;> simp
@[simp] theorem takePending_requests (x : Splice) (s : State) :
    (takePending x s).link.requests = s.link.requests := by
  unfold takePending; split <;> simp
@[simp] theorem endMove_pending (f : RunFrame) (s : State) : (endMove f s).pending = s.pending := by
  unfold endMove; split; · simp
  split <;> simp
@[simp] theorem endMove_store (f : RunFrame) (s : State) : (endMove f s).store = s.store := by
  unfold endMove; split; · simp
  split <;> simp
@[simp] theorem endMove_checker (f : RunFrame) (s : State) : (endMove f s).checker = s.checker := by
  unfold endMove; split; · simp
  split <;> simp
@[simp] theorem endMove_trigger (f : RunFrame) (s : State) : (endMove f s).trigger = s.trigger := by
  unfold endMove; split; · simp
  split <;> simp
@[simp] theorem endMove_requests (f : RunFrame) (s : State) :
    (endMove f s).link.requests = s.link.requests := by
  unfold endMove; split; · simp
  split <;> simp
@[simp] theorem rotationStepEnd_pending (s : State) : (rotationStepEnd s).pending = s.pending := by
  unfold rotationStepEnd; dsimp only; split; · simp [countStep]
  split <;> simp [countStep]
@[simp] theorem rotationStepEnd_store (s : State) : (rotationStepEnd s).store = s.store := by
  unfold rotationStepEnd; dsimp only; split; · simp [countStep]
  split <;> simp [countStep]
@[simp] theorem rotationStepEnd_checker (s : State) : (rotationStepEnd s).checker = s.checker := by
  unfold rotationStepEnd; dsimp only; split; · simp [countStep]
  split <;> simp [countStep]
@[simp] theorem rotationStepEnd_trigger (s : State) : (rotationStepEnd s).trigger = s.trigger := by
  unfold rotationStepEnd; dsimp only; split; · simp [countStep]
  split <;> simp [countStep]
@[simp] theorem rotationStepEnd_requests (s : State) :
    (rotationStepEnd s).link.requests = s.link.requests := by
  unfold rotationStepEnd; dsimp only; split; · simp [countStep]
  split <;> simp [countStep]

/-! ## Splices (R104) -/

@[simp] theorem acceptSplice_pending (x : Splice) (s : State) : (acceptSplice x s).pending = s.pending := by
  unfold acceptSplice spliceInWaiting spliceInHeld pendSplice; repeat' split
  all_goals simp
@[simp] theorem acceptSplice_store (x : Splice) (s : State) : (acceptSplice x s).store = s.store := by
  unfold acceptSplice spliceInWaiting spliceInHeld pendSplice; repeat' split
  all_goals simp
@[simp] theorem acceptSplice_rotation (x : Splice) (s : State) : (acceptSplice x s).rotation = s.rotation := by
  unfold acceptSplice spliceInWaiting spliceInHeld pendSplice; repeat' split
  all_goals simp
@[simp] theorem acceptSplice_checker (x : Splice) (s : State) : (acceptSplice x s).checker = s.checker := by
  unfold acceptSplice spliceInWaiting spliceInHeld pendSplice; repeat' split
  all_goals simp
@[simp] theorem acceptSplice_survey (x : Splice) (s : State) : (acceptSplice x s).survey = s.survey := by
  unfold acceptSplice spliceInWaiting spliceInHeld pendSplice; repeat' split
  all_goals simp
@[simp] theorem acceptSplice_trigger (x : Splice) (s : State) : (acceptSplice x s).trigger = s.trigger := by
  unfold acceptSplice spliceInWaiting spliceInHeld pendSplice; repeat' split
  all_goals simp
@[simp] theorem acceptSplice_requests (x : Splice) (s : State) :
    (acceptSplice x s).link.requests = s.link.requests := by
  unfold acceptSplice spliceInWaiting spliceInHeld pendSplice; repeat' split
  all_goals simp

/-! ## The strobe (R129 to R137) -/

@[simp] theorem notifyFirstFail_pending (r : FailRec) (s : State) : (notifyFirstFail r s).pending = s.pending := by
  unfold notifyFirstFail; split <;> rfl
@[simp] theorem notifyFirstFail_store (r : FailRec) (s : State) : (notifyFirstFail r s).store = s.store := by
  unfold notifyFirstFail; split <;> rfl
@[simp] theorem notifyFirstFail_timing (r : FailRec) (s : State) : (notifyFirstFail r s).timing = s.timing := by
  unfold notifyFirstFail; split <;> rfl
@[simp] theorem notifyFirstFail_rotation (r : FailRec) (s : State) : (notifyFirstFail r s).rotation = s.rotation := by
  unfold notifyFirstFail; split <;> rfl
@[simp] theorem notifyFirstFail_output (r : FailRec) (s : State) : (notifyFirstFail r s).output = s.output := by
  unfold notifyFirstFail; split <;> rfl
@[simp] theorem notifyFirstFail_survey (r : FailRec) (s : State) : (notifyFirstFail r s).survey = s.survey := by
  unfold notifyFirstFail; split <;> rfl
@[simp] theorem notifyFirstFail_trigger (r : FailRec) (s : State) : (notifyFirstFail r s).trigger = s.trigger := by
  unfold notifyFirstFail; split <;> rfl
@[simp] theorem notifyFirstFail_requests (r : FailRec) (s : State) :
    (notifyFirstFail r s).link.requests = s.link.requests := by
  unfold notifyFirstFail; split <;> simp
@[simp] theorem testStopOnFail_pending (s : State) : (testStopOnFail s).pending = s.pending := by
  unfold testStopOnFail; split <;> rfl
@[simp] theorem testStopOnFail_store (s : State) : (testStopOnFail s).store = s.store := by
  unfold testStopOnFail; split <;> rfl
@[simp] theorem testStopOnFail_timing (s : State) : (testStopOnFail s).timing = s.timing := by
  unfold testStopOnFail; split <;> rfl
@[simp] theorem testStopOnFail_rotation (s : State) : (testStopOnFail s).rotation = s.rotation := by
  unfold testStopOnFail; split <;> rfl
@[simp] theorem testStopOnFail_output (s : State) : (testStopOnFail s).output = s.output := by
  unfold testStopOnFail; split <;> rfl
@[simp] theorem testStopOnFail_survey (s : State) : (testStopOnFail s).survey = s.survey := by
  unfold testStopOnFail; split <;> rfl
@[simp] theorem testStopOnFail_trigger (s : State) : (testStopOnFail s).trigger = s.trigger := by
  unfold testStopOnFail; split <;> rfl
@[simp] theorem testStopOnFail_requests (s : State) :
    (testStopOnFail s).link.requests = s.link.requests := by
  unfold testStopOnFail; split <;> simp
@[simp] theorem failingStep_pending (m f obs : LaneSet) (s : State) :
    (failingStep m f obs s).pending = s.pending := by
  simp [failingStep, logFailingStep]
@[simp] theorem failingStep_store (m f obs : LaneSet) (s : State) :
    (failingStep m f obs s).store = s.store := by
  simp [failingStep, logFailingStep]
@[simp] theorem failingStep_timing (m f obs : LaneSet) (s : State) :
    (failingStep m f obs s).timing = s.timing := by
  simp [failingStep, logFailingStep]
@[simp] theorem failingStep_rotation (m f obs : LaneSet) (s : State) :
    (failingStep m f obs s).rotation = s.rotation := by
  simp [failingStep, logFailingStep]
@[simp] theorem failingStep_output (m f obs : LaneSet) (s : State) :
    (failingStep m f obs s).output = s.output := by
  simp [failingStep, logFailingStep]
@[simp] theorem failingStep_survey (m f obs : LaneSet) (s : State) :
    (failingStep m f obs s).survey = s.survey := by
  simp [failingStep, logFailingStep]
@[simp] theorem failingStep_trigger (m f obs : LaneSet) (s : State) :
    (failingStep m f obs s).trigger = s.trigger := by
  simp [failingStep, logFailingStep]
@[simp] theorem failingStep_requests (m f obs : LaneSet) (s : State) :
    (failingStep m f obs s).link.requests = s.link.requests := by
  simp [failingStep, logFailingStep]
@[simp] theorem quarantineLane_pending (obs : LaneSet) (s : State) (n : Lane) :
    (quarantineLane obs s n).pending = s.pending := rfl
@[simp] theorem quarantineLane_store (obs : LaneSet) (s : State) (n : Lane) :
    (quarantineLane obs s n).store = s.store := rfl
@[simp] theorem quarantineLane_timing (obs : LaneSet) (s : State) (n : Lane) :
    (quarantineLane obs s n).timing = s.timing := rfl
@[simp] theorem quarantineLane_rotation (obs : LaneSet) (s : State) (n : Lane) :
    (quarantineLane obs s n).rotation = s.rotation := rfl
@[simp] theorem quarantineLane_output (obs : LaneSet) (s : State) (n : Lane) :
    (quarantineLane obs s n).output = s.output := rfl
@[simp] theorem quarantineLane_survey (obs : LaneSet) (s : State) (n : Lane) :
    (quarantineLane obs s n).survey = s.survey := rfl
@[simp] theorem quarantineLane_trigger (obs : LaneSet) (s : State) (n : Lane) :
    (quarantineLane obs s n).trigger = s.trigger := rfl
@[simp] theorem quarantineLane_requests (obs : LaneSet) (s : State) (n : Lane) :
    (quarantineLane obs s n).link.requests = s.link.requests := by
  simp [quarantineLane]

/-- What quarantining a list of lanes leaves, block by block. -/
theorem quarantineFold_keeps {α : Type} (get : State → α) (obs : LaneSet)
    (h : ∀ s n, get (quarantineLane obs s n) = get s) (lanes : List Lane) (s : State) :
    get (lanes.foldl (quarantineLane obs) s) = get s := by
  induction lanes generalizing s with
  | nil => rfl
  | cons n lanes ih => rw [List.foldl_cons, ih, h]

@[simp] theorem quarantineAll_pending (obs : LaneSet) (lanes : List Lane) (s : State) :
    (quarantineAll obs lanes s).pending = s.pending := by
  have h := quarantineFold_keeps State.pending obs (fun _ _ => rfl) lanes s
  simp only [quarantineAll]; split <;> simp [enterLockout, h]
@[simp] theorem judge_pending (m f obs : LaneSet) (s : State) : (judge m f obs s).pending = s.pending := by
  simp only [judge, quarantineAll_pending]; split <;> simp [countStrobe]
@[simp] theorem quarantineAll_store (obs : LaneSet) (lanes : List Lane) (s : State) :
    (quarantineAll obs lanes s).store = s.store := by
  have h := quarantineFold_keeps State.store obs (fun _ _ => rfl) lanes s
  simp only [quarantineAll]; split <;> simp [enterLockout, h]
@[simp] theorem judge_store (m f obs : LaneSet) (s : State) : (judge m f obs s).store = s.store := by
  simp only [judge, quarantineAll_store]; split <;> simp [countStrobe]
@[simp] theorem quarantineAll_trigger (obs : LaneSet) (lanes : List Lane) (s : State) :
    (quarantineAll obs lanes s).trigger = s.trigger := by
  have h := quarantineFold_keeps State.trigger obs (fun _ _ => rfl) lanes s
  simp only [quarantineAll]; split <;> simp [enterLockout, h]
@[simp] theorem judge_trigger (m f obs : LaneSet) (s : State) : (judge m f obs s).trigger = s.trigger := by
  simp only [judge, quarantineAll_trigger]; split <;> simp [countStrobe]
@[simp] theorem quarantineAll_requests (obs : LaneSet) (lanes : List Lane) (s : State) :
    (quarantineAll obs lanes s).link.requests = s.link.requests := by
  have h := quarantineFold_keeps (fun t => t.link.requests) obs
    (fun t n => quarantineLane_requests obs t n) lanes s
  simp only [quarantineAll]; split <;> simp [enterLockout, h]

@[simp] theorem judge_requests (m f obs : LaneSet) (s : State) :
    (judge m f obs s).link.requests = s.link.requests := by
  simp only [judge, quarantineAll_requests]; split <;> simp [countStrobe]

end Sys2Proof.Machine
end

