-- ==== Sys2Proof/Laws/Timing.lean ====
section
/-! SUPPORT. The pacer and the wait timer: when the strobe, the step end and the expiry are due, and
what a tick does. -/

namespace Sys2Proof.Machine

open Safety

/-! ## When an event is due (R47, R54) -/

theorem PacerStep.strobeDue_iff (k : PacerStep) :
    k.strobeDue = true ↔ k.count + 1 = k.strobe ∧ k.prescale ≤ k.spent + 1 := by
  simp [PacerStep.strobeDue, PacerStep.countEnds, and_comm]

theorem PacerStep.endDue_iff (k : PacerStep) :
    k.endDue = true ↔ k.period ≤ k.count + 1 ∧ k.prescale ≤ k.spent + 1 := by
  simp [PacerStep.endDue, PacerStep.countEnds, and_comm]

/-- STROBE and SURVEY_STROBE occur exactly where the strobe is due. -/
theorem strobes_iff_strobeDue (s : State) (kind : RunKind) :
    s.strobes kind = true ↔ StrobeDue s kind := by
  simp [State.strobes, StrobeDue, Option.any_eq_true, PacerStep.strobeDue_iff, and_assoc]

/-- STEP_END and SURVEY_STEP_END occur exactly where the step end is due. -/
theorem stepEnds_iff_stepEndDue (s : State) (kind : RunKind) :
    s.stepEnds kind = true ↔ StepEndDue s kind := by
  simp [State.stepEnds, StepEndDue, Option.any_eq_true, PacerStep.endDue_iff, and_assoc]

theorem WaitTimer.expired_iff (w : WaitTimer) : w.expired = true ↔ w = ⟨true, 0⟩ := by
  cases w; simp [WaitTimer.expired]

/-! ## A tick (R47) -/

/-- A tick changes no value of the step. -/
theorem PacerStep.tick_values (k : PacerStep) :
    k.tick.prescale = k.prescale ∧ k.tick.period = k.period ∧ k.tick.strobe = k.strobe := by
  unfold PacerStep.tick
  split
  · exact ⟨rfl, rfl, rfl⟩
  · split <;> exact ⟨rfl, rfl, rfl⟩

/-- The pacer stands still for an event that is due. -/
theorem PacerStep.tick_of_due {k : PacerStep} (h : k.strobeDue = true ∨ k.endDue = true) :
    k.tick = k := by
  rcases h with h | h <;> simp [PacerStep.tick, h]

/-- A tick within a count. -/
theorem PacerStep.tick_within {k : PacerStep} (h : k.spent + 1 < k.prescale) :
    k.tick = { k with spent := k.spent + 1 } := by
  have : ¬ k.prescale ≤ k.spent + 1 := by omega
  simp [PacerStep.tick, PacerStep.strobeDue, PacerStep.endDue, PacerStep.countEnds, this]

/-- A tick that completes a count at which nothing is due. -/
theorem PacerStep.tick_across {k : PacerStep} (h : k.prescale ≤ k.spent + 1)
    (hs : k.count + 1 ≠ k.strobe) (he : k.count + 1 < k.period) :
    k.tick = { k with count := k.count + 1, spent := 0 } := by
  have : ¬ k.period ≤ k.count + 1 := by omega
  simp [PacerStep.tick, PacerStep.strobeDue, PacerStep.endDue, PacerStep.countEnds, h, hs, this]

/-- A tick keeps the count in 0..P−1 and the time in the count below the prescaled tick. -/
theorem PacerStep.tick_inRange {k : PacerStep} (hc : k.count < k.period)
    (hs : k.spent < k.prescale) : k.tick.count < k.period ∧ k.tick.spent < k.prescale := by
  by_cases h : k.spent + 1 < k.prescale
  · rw [tick_within h]; exact ⟨hc, h⟩
  · by_cases hd : k.strobeDue = true ∨ k.endDue = true
    · rw [tick_of_due hd]; exact ⟨hc, hs⟩
    · rw [PacerStep.strobeDue_iff, PacerStep.endDue_iff] at hd
      rw [tick_across (by omega) (by omega) (by omega)]
      constructor <;> simp only <;> omega

end Sys2Proof.Machine
end

