-- ==== Sys2Proof/Tests/Slice0.lean ====
section
/-! SUPPORT. Tests: commands that are not well-formed and are refused, the spec's own worked values, and
for every obligation with hypotheses a state and operands that meet them, at the ends of their ranges;
a request's witness also says what it is answered. -/

namespace Sys2Proof.Tests

open Sys2Proof Sys2Proof.Machine Sys2Proof.Safety

set_option Elab.async false

/-! ## States -/

/-- The part operating, all else as after a full reset. -/
def up : State := { State.reset with link := { Link.reset with power := .operating } }

/-- The one request of the tests. -/
def rq (p : List Byte) : Req := ⟨1, p⟩

/-- A request of kind `k` alone in the request queue. -/
def ask (s : State) (k : Byte) (p : List Byte) : State :=
  { s with link := { s.link with requests := [(rq p).frame k] } }

/-- The status of the youngest outbound frame. -/
def code : Host.Outcome State Fault Refusal → Option Byte
  | .next t => t.link.outbound.getLast?.bind fun f => f.payload.head?
  | _ => none

/-- The state a command leaves. -/
def after (i : Instr) (s : State) : State :=
  match exec i s with
  | .next t => t
  | _ => s

/-- The request of row `i` is next for the command unit, and is answered `st`. -/
def Case (i : Req → Instr) (k : Byte) (p : List Byte) (s : State) (st : Status) : Bool :=
  (ask s k p).operating && (ask s k p).store.pack.isNone
    && (ask s k p).link.requests.head? = some ((rq p).frame k)
    && code (exec (i (rq p)) (ask s k p)) = some st.code

/-- What a case says of its request is that it is being served. -/
theorem serving_of_case {i : Req → Instr} {k : Byte} {p : List Byte} {s : State} {st : Status}
    (h : Case i k p s st = true) : Serving (ask s k p) ((rq p).frame k) := by
  simp only [Case, Bool.and_eq_true, Option.isNone_iff_eq_none, decide_eq_true_eq] at h
  exact ⟨h.1.1.1, h.1.1.2, h.1.2⟩

/-- An edge's three conditions (Safety.Edge). -/
def EdgeAt (s : State) (input : TrigInput) (action : TrigAction) : Bool :=
  s.operating && (s.trigger.cfg input).action = action
    && (s.trigger.cfg input).edge.admits (!(s.trigger.cfg input).lastLevel)

/-- They are an edge. -/
theorem edge_of {s : State} {input : TrigInput} {action : TrigAction}
    (h : EdgeAt s input action = true) : Edge s input action := by
  simp only [EdgeAt, Bool.and_eq_true, decide_eq_true_eq] at h
  exact ⟨h.1.1, h.1.2, h.2⟩

/-- Pattern 0 stored with 2 records at base 0, pattern 1 generated with 4 vectors; one slot, of
pattern 0, active and pending; bank A enabled. -/
def shop : State :=
  { up with
    store :=
      { Store.reset with
        directory :=
          (Store.reset.directory.set 0 ⟨.stored 2 0, 1⟩).set 1
            ⟨.generated 4 ⟨.walkOne, 0xFFFFFF, 0, 0, .none⟩, 1⟩ }
    rotation :=
      { active := ⟨1, Rotation.empty.slots.set 0 ⟨0, 1, .forward, 0⟩⟩
        pendingRot := ⟨1, Rotation.empty.slots.set 0 ⟨0, 1, .forward, 0⟩⟩
        version := 1
        swapWaiting := false }
    output := { Output.reset with bankA := ⟨.latched, false, true⟩ } }

/-- The same in another engine state without a run. -/
def inMode (m : EngineState) : State := { shop with engine := { shop.engine with mode := m } }

/-- The same with a rotation run at vector 0 in the engine state given. -/
def run (m : EngineState) : State :=
  { shop with
    engine :=
      { Engine.reset with
        mode := m
        runKind := .rotation
        live := some ⟨0, ⟨0, .ascending⟩, 0, some ⟨0, 1⟩⟩
        stepRecord := if m = .held .boundary then none else some VectorRec.blank }
    timing :=
      { Timing.reset with
        pacer :=
          if m = .running ∨ m = .held .running then some ⟨1, 50, 25, 0, 0⟩ else none
        waitTimer :=
          if m = .waiting ∨ m = .held .waiting then ⟨true, 50000⟩ else WaitTimer.stopped } }

/-- A step in the last tick before its count S. -/
def due (s : State) : State :=
  { s with timing := { s.timing with pacer := some ⟨1, 50, 25, 24, 0⟩ } }

/-- A step in the last tick of its last count. -/
def struck (s : State) : State :=
  { s with timing := { s.timing with pacer := some ⟨1, 50, 25, 49, 0⟩ } }

/-- A survey of LN0 and LN1 at the participant given, its strobe due. -/
def surveying (n : Lane) : State :=
  { shop with
    engine := { Engine.reset with mode := .running, runKind := .survey }
    survey := { Survey.reset with participants := 3, position := some n }
    timing := { Timing.reset with pacer := some ⟨1, 50, 25, 24, 0⟩ } }

/-- A pending stop asked for. -/
def stopping (p : PendingStop) (s : State) : State :=
  { s with engine := { s.engine with pendingStop := p } }

/-- An input TRGA whose next change is an edge with the action given. -/
def armedEdge (action : TrigAction) (s : State) : State :=
  { s with trigger := { s.trigger with trgA := ⟨.rising, action, false⟩ } }

/-- Queues of the lengths given. -/
def queued (requests outbound : Nat) : State :=
  { up with
    link :=
      { up.link with
        requests := List.replicate requests ⟨1, 0, []⟩
        outbound := List.replicate outbound ⟨1, 0x80, [0]⟩ } }

/-- No hold on the pins. -/
def free : Assembly := ⟨0, 0⟩

/-! ## Well-formed commands -/

theorem test_wf_longPayload :
    (Instr.status (rq (List.replicate 241 0))).wf = false ∧
      (Instr.frameComplete ⟨1, 0, List.replicate 241 0⟩).wf = false ∧
      (Instr.status (rq (List.replicate 240 0))).wf = true := by decide +kernel

theorem test_wf_badKindNamesItsKind :
    (Instr.badKind ⟨1, Kind.status, []⟩).wf = false ∧ (Instr.badKind ⟨1, 0x60, []⟩).wf = false ∧
      (Instr.badKind ⟨1, 0x5F, []⟩).wf = true := by decide +kernel

theorem test_wf_levelWithoutHold :
    (Instr.strobe ⟨0, 1⟩).wf = false ∧ (Instr.readLanes (rq []) ⟨0, 1⟩).wf = false ∧
      (Instr.surveyStrobe ⟨0, 1⟩).wf = false ∧ (Instr.strobe ⟨3, 1⟩).wf = true := by
  decide +kernel

/-! ## Worked values of the spec -/

/-- The CRC's check value: "123456789" gives 0x29B1 (R168). -/
theorem test_crcCheckValue :
    crc [0x31, 0x32, 0x33, 0x34, 0x35, 0x36, 0x37, 0x38, 0x39] = 0x29B1 := by decide +kernel

/-- The shortest and the longest period (R44). -/
theorem test_periodLimits :
    convertTiming .nearest 30 20 = some ⟨1, 2, 1, 30, 20, true⟩ ∧
      convertTiming .nearest 29 20 = none ∧
      (convertTiming .nearest 167770879 20000).isSome = true ∧
      convertTiming .nearest 167770880 20000 = none ∧
      (convertTiming .down 40 20).isSome = true ∧ convertTiming .down 39 20 = none ∧
      (convertTiming .up 21 20).isSome = true ∧ convertTiming .up 20 20 = none := by
  decide +kernel

/-- A pass of each direction over four vectors (R59). -/
theorem test_passes :
    (passPositions .forward 4).map Position.index = [0, 1, 2, 3] ∧
      (passPositions .reverse 4).map Position.index = [3, 2, 1, 0] ∧
      (passPositions .pingpong 4).map Position.index = [0, 1, 2, 3, 2, 1] ∧
      (passPositions .pingpong 2).map Position.index = [0, 1] := by decide +kernel

/-- READY after start-up, and nothing else (R176). -/
theorem test_readyAfterStartUp :
    (after (.startUpEnd true false) State.reset).link.outbound = [⟨0, 0xE0, [0x4B, 0x18, 0x01]⟩] := by
  decide +kernel

/-- A frame received byte after byte is admitted (R168, R169, R170). -/
theorem test_frameReceived :
    (((⟨9, Kind.status, []⟩ : LinkFrame).wire.foldl
      (fun s b => after (.characterReceived b true) s) up).link.requests)
      = [⟨9, Kind.status, []⟩] := by decide +kernel

/-- A whole one-shot run of pattern 0 in steps of 2 ticks: two steps, then COMPLETE and PASS (R47, R82,
R87, R96). -/
theorem test_oneShotRun :
    let s : State :=
      { inMode .armed with
        timing := { Timing.reset with sets := Vector.replicate 4 ⟨1, 2, 1, 40, 20, false⟩ } }
    let t := [Instr.strobe free, .stepEnd, .strobe free, .stepEnd].foldl (fun s i => after i s)
      (after (.start (rq [])) (ask s Kind.start []))
    t.engine.mode = .idle ∧ t.engine.lastStop = .complete ∧ t.engine.verdict = .pass ∧
      t.engine.stepCounter = 2 := by decide +kernel

/-- No word spells a command: the table gives no row bits. -/
theorem test_noWordSpellsACommand (nbits w : Nat) (s : State) :
    decodeTableWord nbits w = none ∧ s.withFetchWord nbits w = s := ⟨rfl, rfl⟩

/-! ## What the obligations assume -/

theorem test_hyps_StepTakesTheOldestCommand :
    (up.withPending [.frameSent, .stepEnd]).pending = .frameSent :: [.stepEnd] := rfl

theorem test_hyps_IdleStepIsOneTick :
    State.reset.pending = [] ∧ State.reset.link.power = .startUp 500000 ∧
      State.reset.engine.mode ≠ .running ∧ State.reset.link.framer = .hunting ∧
      (run .running).pending = [] ∧ (run .running).engine.mode = .running ∧
      (run .running).timing.pacer = some ⟨1, 50, 25, 0, 0⟩ ∧
      (run .waiting).engine.mode = .waiting ∧ (run .waiting).timing.waitTimer.running = true ∧
      (after (.characterReceived 0xC3 true) up).link.framer = .inFrame [] 0 ∧
      (PacerStep.tick ⟨2, 50, 25, 23, 0⟩).spent = 1 ∧ (PacerStep.tick ⟨2, 50, 25, 23, 1⟩).count = 24 ∧
      PacerStep.tick ⟨2, 50, 25, 24, 1⟩ = ⟨2, 50, 25, 24, 1⟩ ∧
      PacerStep.tick ⟨1, 50, 25, 49, 0⟩ = ⟨1, 50, 25, 49, 0⟩ ∧
      PacerStep.tick^[5] ⟨2, 4, 3, 0, 0⟩ = ⟨2, 4, 3, 2, 1⟩ ∧
      PacerStep.strobeDue ⟨2, 4, 3, 2, 1⟩ = true ∧ PacerStep.strobeDue ⟨2, 4, 3, 2, 0⟩ = false ∧
      PacerStep.tick^[1] ⟨2, 4, 3, 3, 0⟩ = ⟨2, 4, 3, 3, 1⟩ ∧
      PacerStep.endDue ⟨2, 4, 3, 3, 1⟩ = true ∧ PacerStep.endDue ⟨2, 4, 3, 3, 0⟩ = false := by
  decide +kernel

theorem test_hyps_FullResetAndStartUp :
    State.reset.operating = false ∧ StartUpLaw State.reset ∧ up.operating = true := by
  decide +kernel

theorem test_hyps_FrameCompleteIsAdmittedOrAnswered :
    up.operating = true ∧
      (after (.frameComplete ⟨1, 0x60, List.replicate 240 0⟩) up).link.linkError = true ∧
      (after (.frameComplete ⟨1, 0x5F, List.replicate 240 0⟩) (queued 3 12)).link.requests.length = 4 ∧
      (queued 3 12).operating = true ∧
      code (exec (.frameComplete ⟨1, 0x5F, []⟩) (queued 4 11)) = some Status.queueFull.code ∧
      (after (.frameComplete ⟨1, 0x5F, []⟩) (queued 4 12)).link.linkError = true ∧
      (after (.frameComplete ⟨1, 0, []⟩) (queued 0 16)).link.linkError = true ∧
      (after (.frameComplete ⟨1, 0, List.replicate 241 0⟩) up).link.linkError = true := by
  decide +kernel

/-- In a frame with the bytes given. -/
def inFrame (bytes : List Byte) : State :=
  { up with link := { up.link with framer := .inFrame bytes 0 } }

theorem test_hyps_FramerTakesCharacters :
    up.operating = true ∧ up.link.framer = .hunting ∧ State.reset.operating = false ∧
      after .byteGapTimeout up = up ∧
      (inFrame []).link.framer = .inFrame [] 0 ∧ (inFrame []).operating = true ∧
      (after (.characterReceived 241 true) (inFrame [])).link.linkError = true ∧
      (after (.characterReceived 240 true) (inFrame [])).link.framer = .inFrame [240] 0 ∧
      (after (.characterReceived 7 false) (inFrame [])).link.linkError = true ∧
      (after .byteGapTimeout (inFrame [])).link.linkError = true ∧
      crc [0, 1, 0] = 0xFFAD ∧
      (after (.characterReceived 0xAD true) (inFrame [0, 1, 0, 0xFF])).link.requests
        = [⟨1, 0, []⟩] ∧
      (after (.characterReceived 0xAC true) (inFrame [0, 1, 0, 0xFF])).link.linkError = true := by
  decide +kernel

theorem test_hyps_WrittenFrameIsReceivedWhole :
    up.operating = true ∧ up.link.framer = .hunting ∧
      (⟨1, 0, List.replicate 240 0⟩ : LinkFrame).payload.length ≤ 240 := by decide +kernel

/-- An outbound queue of notices. -/
def noticed (n : Nat) : State :=
  { up with link := { up.link with outbound := List.replicate n (NoticeKind.frame .runEnd [])} }

theorem test_hyps_NoticesArePlacedAndFramesSent :
    ({ up with link := { up.link with noticeMask := 1 } } : State).link.noticeMask.getLsbD
      NoticeKind.mark.bit = false ∧
      up.link.noticeMask.getLsbD NoticeKind.mark.bit = true ∧
      ((noticed 11).link.outbound.filter fun f => 0xE0 ≤ f.kind.toNat).length = 11 ∧
      ((noticed 12).link.outbound.filter fun f => 0xE0 ≤ f.kind.toNat).length = 12 ∧
      ((noticed 12).notice .ready []).link.noticeLost = true ∧
      ((noticed 11).notice .mark []).link.outbound.length = 12 ∧
      ((queued 4 12).notice .ready []).link.noticeLost = true ∧
      (queued 0 1).link.outbound = [⟨1, 0x80, [0]⟩] := by decide +kernel

theorem test_hyps_BadKindAndBadLengthAreAnswered :
    Case (fun r => .badKind (r.frame 0x5F)) 0x5F [] up .badKind ∧
      (0x5F : Byte) ∉ knownKinds ∧
      Case .status Kind.status [0] up .badLength ∧ lengthFits ((rq [0]).frame Kind.status) = false ∧
      (Instr.status (rq [0])).frame? = some ((rq [0]).frame Kind.status) ∧
      Kind.status ∈ knownKinds ∧ (Instr.status (rq [0])).kindWf = true ∧
      Case .writeVectors Kind.writeVectors [0, 0, 0] up .badLength ∧
      lengthFits ((rq [0, 0, 0]).frame Kind.writeVectors) = false ∧
      Case .loadSnapshot Kind.loadSnapshot (List.replicate 16 0) up .badLength ∧
      lengthFits ((rq (List.replicate 16 0)).frame Kind.loadSnapshot) = false := by decide +kernel

theorem test_hyps_EveryRequestGetsOneReply :
    Case .stop Kind.stop [] (run .running) .ok ∧ (Instr.stop (rq [])).kindWf = true ∧
      (Instr.stop (rq [])).frame? = some ((rq []).frame Kind.stop) ∧
      Kind.stop ≠ Kind.packStore := by decide +kernel

theorem test_hyps_RequestsWaitTheirTurn :
    State.reset.operating = false ∧ (Instr.status (rq [])).kindWf = true ∧
      (Instr.status (rq [])).frame? = some ((rq []).frame Kind.status) ∧
      (queued 1 0).operating = true ∧ (queued 1 0).link.requests = [⟨1, 0, []⟩] ∧
      (⟨1, 0, []⟩ : LinkFrame) ≠ (rq []).frame Kind.position ∧
      (queued 0 15).store.pack = none ∧ (queued 0 15).link.requests = [] ∧
      (queued 0 15).link.outbound.length < 16 := by decide +kernel

theorem test_hyps_EngineStateRefusesRequests :
    Case .stop Kind.stop [] (inMode .lockout) .locked ∧ Kind.stop ∉ servedInLockout ∧
      Kind.stop ∈ knownKinds ∧ lengthFits ((rq []).frame Kind.stop) = true ∧
      (inMode .lockout).engine.mode = .lockout ∧
      Case .start Kind.start [] (run .running) .state ∧
      refusedState (run .running).engine Kind.start = true ∧
      Case .suspend Kind.suspend [0] (surveying 0) .state ∧
      refusedState (surveying 0).engine Kind.suspend = true ∧
      Case .hold Kind.hold [] (run (.held .boundary)) .state ∧
      refusedState (run (.held .boundary)).engine Kind.hold = true ∧
      Case .continueRun Kind.continueRun [] (run .waiting) .state ∧
      Case .release Kind.release [] (run .running) .state ∧
      Case .resume Kind.resume [0] (inMode .armed) .state ∧
      Case .stop Kind.stop [] up .state := by decide +kernel

theorem test_hyps_StatusAndNoticeMask :
    Case .status Kind.status [] (inMode .lockout) .ok ∧
      Case .noticeMask Kind.noticeMask [0x02, 0x00] up .range ∧
      Case .noticeMask Kind.noticeMask [0x01, 0xFF] up .ok ∧
      ((0x02 : Byte) ++ (0x00 : Byte)).getLsbD 9 = true ∧
      ((0x01 : Byte) ++ (0xFF : Byte) : BitVec 16) &&& 0xFE00 = 0 ∧ up.engine.mode ≠ .lockout := by
  decide +kernel

theorem test_hyps_OutputSettingsAreWritten :
    Case .setBank Kind.setBank [3, 0, 0, 0] up .range ∧ Bank.ofByte? 3 = none ∧
      Case .setBank Kind.setBank [2, 2, 0, 0] up .range ∧ BankMode.ofByte? 2 = none ∧
      Case .setBank Kind.setBank [2, 1, 255, 1] (inMode .armed) .ok ∧ Bank.ofByte? 2 = some .c ∧
      BankMode.ofByte? 1 = some .latched ∧ up.engine.mode = .idle ∧
      Case .setIdlePolicy Kind.setIdlePolicy [4] up .range ∧ IdlePolicy.ofByte? 4 = none ∧
      Case .setIdlePolicy Kind.setIdlePolicy [3] (run .running) .ok ∧
      IdlePolicy.ofByte? 3 = some .release ∧ (run .running).engine.mode ≠ .lockout := by
  decide +kernel

theorem test_hyps_StaticDriveStagesAndApplies :
    Case .stageStatic Kind.stageStatic VectorRec.blank.bytes up .ok ∧ up.engine.mode = .idle ∧
      Case .stageStatic Kind.stageStatic (List.replicate 13 0xFD) up .ok ∧
      illFormedRecord (List.replicate 13 0xFD) = true ∧
      (after (.stageStatic (rq (List.replicate 13 0xFD)))
        (ask up Kind.stageStatic (List.replicate 13 0xFD))).output.staging[(23 : Lane)] = .z ∧
      Case .applyStatic Kind.applyStatic [] (inMode .armed) .ok ∧
      (inMode .armed).engine.mode = .armed := by decide +kernel

/-- Every lane's applied level, with bank A enabled. -/
def applied (l : Level) : State :=
  { shop with output := { shop.output with applied := Vector.replicate 24 l } }

theorem test_hyps_PinFollowsAppliedLevel :
    StartUpLaw State.reset ∧ State.reset.operating = false ∧
      (run (.held .boundary)).engine.runningPin = true ∧ (inMode .lockout).engine.lockPin = true ∧
      (shop.output.cfg 8).enable = false ∧ (shop.output.cfg 7).enable = true ∧
      hasLane shop.checker.quarantine 7 = false ∧ shop.engine.mode ≠ .lockout ∧
      (inMode .lockout).engine.mode = .lockout ∧ shop.output.applied[(7 : Lane)] = .z ∧
      (applied .zero).output.applied[(7 : Lane)] = .zero ∧
      (applied .one).pinLevel 7 = .driven true ∧ (applied .one).pinLevel 8 = .released := by
  decide +kernel

theorem test_hyps_ReadLanesReportsEveryLane :
    Case (fun r => .readLanes r ⟨3, 1⟩) Kind.readLanes [] shop .ok := by decide +kernel

theorem test_hyps_AllocationIsFirstFit :
    DirectoryLaw shop ∧ ExtentsApart shop ∧ shop.store.firstFit 1 = some 2 ∧
      shop.store.firstFit 2046 = some 2 ∧ shop.store.firstFit 2047 = none ∧
      shop.store.largestFree = 2046 := by decide +kernel

theorem test_hyps_DefinePatternMakesABlankPattern :
    StoreCanonical shop ∧ shop.engine.mode ≠ .lockout ∧
      Case .definePattern Kind.definePattern [32, 0, 1] shop .range ∧
      Case .definePattern Kind.definePattern [0, 0, 1] shop .existsAlready ∧
      shop.store.content 0 ≠ .undefined ∧
      Case .definePattern Kind.definePattern [31, 0, 0] shop .range ∧
      Case .definePattern Kind.definePattern [31, 8, 1] shop .range ∧
      Case .definePattern Kind.definePattern [31, 8, 0] shop .noRoom ∧
      num2 8 0 = 2048 ∧ shop.store.content 31 = .undefined ∧ shop.store.firstFit 2048 = none ∧
      Case .definePattern Kind.definePattern [31, 7, 254] shop .ok ∧
      shop.store.firstFit (num2 7 254) = some 2 := by decide +kernel

theorem test_hyps_GeneratedPatternsFollowTheirKind :
    Case .defineGenerator Kind.defineGenerator [32, 0, 0, 0, 1, 0, 0, 0, 0, 0, 1, 0] shop .range ∧
      Case .defineGenerator Kind.defineGenerator [1, 0, 0, 0, 1, 0, 0, 0, 0, 0, 1, 0] shop
        .existsAlready ∧
      Case .defineGenerator Kind.defineGenerator [2, 5, 0, 0, 1, 0, 0, 0, 0, 0, 1, 0] shop .range ∧
      Case .defineGenerator Kind.defineGenerator [2, 0, 0, 0, 0, 0, 0, 0, 0, 0, 1, 0] shop .range ∧
      Case .defineGenerator Kind.defineGenerator [2, 0, 0, 0, 1, 0, 0, 0, 24, 0, 1, 0] shop .range ∧
      Case .defineGenerator Kind.defineGenerator [2, 0, 0, 0, 1, 0, 0, 0, 0, 4, 1, 0] shop .range ∧
      Case .defineGenerator Kind.defineGenerator [2, 0, 0, 0, 1, 0, 0, 0, 0, 0, 1, 2] shop .range ∧
      Case .defineGenerator Kind.defineGenerator [2, 4, 128, 0, 0, 0, 0, 0, 23, 4, 0, 1] shop .ok ∧
      GenKind.ofByte? 4 = some .alternate ∧ ExpectMode.ofByte? 1 = some .none ∧
      laneSet3 128 0 0 ≠ 0 ∧ num2 4 0 = 1024 := by decide +kernel

/-- WRITE_VECTORS of `n` blank records. -/
def writeBlank (id start n : Byte) : List Byte :=
  id :: 0 :: start :: n :: (List.replicate n.toNat VectorRec.blank.bytes).flatten

theorem test_hyps_WriteVectorsReplacesRecords :
    Case .writeVectors Kind.writeVectors (writeBlank 32 0 1) shop .range ∧
      Case .writeVectors Kind.writeVectors (writeBlank 0 0 0) shop .range ∧
      Case .writeVectors Kind.writeVectors (writeBlank 0 0 17) shop .range ∧
      Case .writeVectors Kind.writeVectors (writeBlank 2 0 1) shop .notDefined ∧
      Case .writeVectors Kind.writeVectors (writeBlank 1 0 16) shop .kind ∧
      Case .writeVectors Kind.writeVectors (writeBlank 0 1 2) shop .range ∧
      Case .writeVectors Kind.writeVectors ([0, 0, 0, 1] ++ List.replicate 13 0xFF) shop .range ∧
      illFormedRecord (List.replicate 13 0xFF) = true ∧
      Case .writeVectors Kind.writeVectors (writeBlank 0 0 2) (run .running) .inUse ∧
      (run .running).runReferenced 0 = true ∧ shop.runReferenced 0 = false ∧
      Case .writeVectors Kind.writeVectors (writeBlank 0 0 2) shop .ok ∧
      shop.store.content 0 = .stored 2 0 ∧ StoreCanonical shop := by decide +kernel

theorem test_hyps_StoreIsReadBack :
    Case .readVectors Kind.readVectors [32, 0, 0, 1] shop .range ∧
      Case .readVectors Kind.readVectors [0, 0, 0, 0] shop .range ∧
      Case .readVectors Kind.readVectors [0, 0, 0, 17] shop .range ∧
      Case .readVectors Kind.readVectors [2, 0, 0, 16] shop .notDefined ∧
      Case .readVectors Kind.readVectors [0, 0, 1, 2] shop .range ∧
      Case .readVectors Kind.readVectors [0, 0, 0, 2] shop .ok ∧
      Case .readVectors Kind.readVectors [1, 0, 0, 4] shop .ok ∧
      Case .listPatterns Kind.listPatterns [] shop .ok ∧ DirectoryLaw shop := by decide +kernel

theorem test_hyps_DeletePatternSparesNamedPatterns :
    Case .deletePattern Kind.deletePattern [32] shop .range ∧
      Case .deletePattern Kind.deletePattern [31] shop .notDefined ∧
      Case .deletePattern Kind.deletePattern [0] shop .inUse ∧ shop.isNamed 0 = true ∧
      Case .deletePattern Kind.deletePattern [1] shop .ok ∧ shop.isNamed 1 = false ∧
      shop.engine.mode ≠ .lockout := by decide +kernel

/-- Pattern 2 stored above a gap, so that a pack moves it. -/
def gapped : State :=
  { shop with
    store := { shop.store with directory := shop.store.directory.set 2 ⟨.stored 3 10, 1⟩ } }

/-- A pack in progress. -/
def packing : State := after (.packStore (rq [])) (ask gapped Kind.packStore [])

theorem test_hyps_PackKeepsEveryPattern :
    Lawful (ask shop Kind.packStore []) ∧ movedRecords shop.store.packPlan = 0 ∧
      Case .packStore Kind.packStore [] shop .ok ∧ Lawful packing ∧
      Serving (ask gapped Kind.packStore []) ((rq []).frame Kind.packStore) ∧
      movedRecords gapped.store.packPlan = 3 ∧ shop.store.pack = none ∧
      packing.store.pack = some ⟨[⟨0, 0, 2, 0⟩, ⟨2, 10, 3, 2⟩], 12⟩ ∧
      packing.link.requests = [(rq []).frame Kind.packStore] ∧ shop.engine.mode = .idle := by
  refine ⟨⟨?_, ?_, ?_, ?_, ?_, ?_, ?_, ?_, ?_, ?_, ?_, ?_, ?_, ?_, ?_, ?_, ?_, ?_, ?_, ?_⟩, ?_, ?_,
    ⟨?_, ?_, ?_, ?_, ?_, ?_, ?_, ?_, ?_, ?_, ?_, ?_, ?_, ?_, ?_, ?_, ?_, ?_, ?_, ?_⟩,
    ⟨by decide +kernel, by decide +kernel, by decide +kernel⟩, ?_⟩ <;>
    decide +kernel

theorem test_hyps_ConversionRoundsTheQuotient :
    (0 < 1 ∧ 30 = 1 * (20 * 1) + 10 ∧ 10 < 20 * 1 ∧ 2 * 10 = 20 * 1) ∧
      (40 = 2 * (20 * 1) + 0 ∧ 0 < 20 * 1) ∧ (29 = 1 * (20 * 1) + 9 ∧ 2 * 9 < 20 * 1) ∧
      (31 = 1 * (20 * 1) + 11 ∧ 20 * 1 < 2 * 11) ∧ convertNs .nearest 30 1 = 2 ∧
      convertNs .nearest 50 1 = 2 := by decide +kernel

theorem test_hyps_TimingSetsAreConvertedWrittenAndRead :
    Case .setTiming Kind.setTiming [4, 0, 0, 3, 232, 0, 0, 1, 244, 0, 0] up .range ∧
      Case .setTiming Kind.setTiming [3, 0, 0, 3, 232, 0, 0, 1, 244, 3, 0] up .range ∧
      Case .setTiming Kind.setTiming [3, 0, 0, 0, 0, 0, 0, 1, 244, 0, 0] up .range ∧
      Case .setTiming Kind.setTiming [3, 0, 0, 3, 232, 0, 0, 0, 0, 0, 0] up .range ∧
      Case .setTiming Kind.setTiming [3, 0, 0, 0, 29, 0, 0, 0, 20, 0, 0] up .range ∧
      convertTiming .nearest 29 20 = none ∧
      Case .setTiming Kind.setTiming [3, 0, 0, 0, 30, 0, 0, 0, 20, 0, 1] up .inexact ∧
      Case .setTiming Kind.setTiming [3, 0, 0, 0, 30, 0, 0, 0, 20, 0, 0] up .ok ∧
      Case .setTiming Kind.setTiming [3, 0, 0, 0, 40, 0, 0, 0, 20, 2, 1] up .ok ∧
      Rounding.ofByte? 2 = some .up ∧ Case .readTiming Kind.readTiming [4] up .range ∧
      Case .readTiming Kind.readTiming [3] up .ok ∧ up.engine.mode ≠ .lockout := by decide +kernel

/-- A swap waiting in a run. -/
def swapping : State :=
  { run .running with rotation := { shop.rotation with swapWaiting := true } }

theorem test_hyps_PendingRotationIsEdited :
    Case .editSlot Kind.editSlot [0, 0, 1, 0, 0] (inMode .lockout) .locked ∧
      Case .editSlot Kind.editSlot [0, 0, 1, 0, 0] swapping .swapWaiting ∧
      Case .editSlot Kind.editSlot [16, 0, 1, 0, 0] up .range ∧
      Case .editSlot Kind.editSlot [0, 32, 1, 0, 0] up .range ∧
      Case .editSlot Kind.editSlot [0, 0, 0, 0, 0] up .range ∧
      Case .editSlot Kind.editSlot [0, 0, 1, 3, 0] up .range ∧
      Case .editSlot Kind.editSlot [0, 0, 1, 0, 4] up .range ∧
      Case .editSlot Kind.editSlot [15, 31, 255, 2, 3] (run .running) .ok ∧
      Case .editSlot Kind.editSlot [0, 0, 1, 0, 0] up .ok ∧
      Case .setSlotCount Kind.setSlotCount [1] (inMode .lockout) .locked ∧
      Case .setSlotCount Kind.setSlotCount [1] swapping .swapWaiting ∧
      Case .setSlotCount Kind.setSlotCount [17] up .range ∧
      Case .setSlotCount Kind.setSlotCount [16] up .ok ∧
      Case .setSlotCount Kind.setSlotCount [0] up .ok := by decide +kernel

/-- A pending rotation of one slot. -/
def pendingOf (r : Slot) : State :=
  { shop with
    rotation := { shop.rotation with pendingRot := ⟨1, Rotation.empty.slots.set 0 r⟩ } }

theorem test_hyps_CommitSwapsOrWaitsAndIsWithdrawn :
    Case .commitRotation Kind.commitRotation [] swapping .swapWaiting ∧
      Case .commitRotation Kind.commitRotation [] up .empty ∧ up.rotation.pendingRot.count = 0 ∧
      Case .commitRotation Kind.commitRotation [] (pendingOf ⟨0, 0, .forward, 0⟩) .range ∧
      Case .commitRotation Kind.commitRotation [] (pendingOf ⟨31, 1, .forward, 0⟩) .notDefined ∧
      Case .commitRotation Kind.commitRotation [] shop .ok ∧
      Case .commitRotation Kind.commitRotation [] (run .running) .ok ∧
      (run .running).engine.rotationLive = true ∧ shop.engine.rotationLive = false ∧
      Case .withdrawCommit Kind.withdrawCommit [] (inMode .lockout) .locked ∧
      Case .withdrawCommit Kind.withdrawCommit [] up .notWaiting ∧
      Case .withdrawCommit Kind.withdrawCommit [] swapping .ok := by decide +kernel

theorem test_hyps_PassesVisitPositionsInOrder :
    (passPositions .pingpong 2)[1]? = some ⟨1, .ascending⟩ ∧ (passPositions .pingpong 2)[2]? = none ∧
      (passPositions .pingpong 3)[3]? = some ⟨1, .descending⟩ ∧
      positionAfter .pingpong 3 ⟨1, .ascending⟩ 2 = some ⟨1, .descending⟩ ∧
      suited .pingpong 3 ⟨2, .descending⟩ = false ∧
      firstPosition .reverse 1 = ⟨0, .descending⟩ := by decide +kernel

theorem test_hyps_ArmAndDisarm :
    Case .arm Kind.arm [2, 0, 0, 0, 0] shop .range ∧ RunMode.ofByte? 2 = none ∧
      Case .arm Kind.arm [1, 0, 0, 0, 0] up .empty ∧ RunMode.ofByte? 1 = some .continuous ∧
      Case .arm Kind.arm [1, 255, 255, 255, 255] (inMode .armed) .ok ∧
      Case .disarm Kind.disarm [] (inMode .lockout) .locked ∧
      Case .disarm Kind.disarm [] (run .waiting) .state ∧
      Case .disarm Kind.disarm [] (inMode .armed) .ok := by decide +kernel

/-- The run of pattern 0 whose record carries WAIT. -/
def waitRun (latch : Bool) : State :=
  { run .running with
    store := { shop.store with vectors := [(0, { VectorRec.blank with wait := true })] }
    engine := { (run .running).engine with releaseLatch := latch } }

theorem test_hyps_StepStartStagesAndStartsOrWaits :
    (run .running).engine.live = some ⟨0, ⟨0, .ascending⟩, 0, some ⟨0, 1⟩⟩ ∧
      (run .running).store.vector 0 0 = VectorRec.blank ∧
      ((waitRun false).store.vector 0 0).wait = true ∧
      (stepStart (waitRun false)).engine.mode = .waiting ∧
      (stepStart (waitRun true)).engine.mode = .running ∧
      (run .waiting).engine.stepRecord = some VectorRec.blank := by decide +kernel

theorem test_hyps_StartBeginsARotationRun :
    Case .start Kind.start [] (inMode .armed) .ok ∧
      EdgeAt (armedEdge .start (inMode .armed)) .trgA .start ∧
      EdgeAt (armedEdge .start up) .trgA .start ∧ up.engine.mode ≠ .armed := by decide +kernel

theorem test_hyps_RunEndIsOneEvent :
    (runEnd .complete (run .running)).engine.verdict = .pass ∧
      (runEnd .hostStop (run .running)).engine.verdict = .incomplete ∧
      (runEnd .complete
        { run .running with
          checker := { Checker.reset with failingSteps := 1 } }).engine.verdict = .fail := by
  decide +kernel

/-- A wait whose time has run out. -/
def expired : State :=
  { run .waiting with timing := { (run .waiting).timing with waitTimer := ⟨true, 0⟩ } }

theorem test_hyps_StopAndTimeoutEndTheRun :
    Case .stop Kind.stop [] (inMode .armed) .ok ∧ Case .stop Kind.stop [] (run .waiting) .ok ∧
      EdgeAt (armedEdge .stop (inMode .armed)) .trgA .stop ∧
      EdgeAt (armedEdge .stop (run .running)) .trgA .stop ∧
      (run .running).engine.mode.isLive = true ∧ EdgeAt (armedEdge .stop up) .trgA .stop ∧
      expired.engine.mode = .waiting ∧ expired.timing.waitTimer = ⟨true, 0⟩ ∧
      (run .waiting).timing.waitTimer ≠ ⟨true, 0⟩ := by
  decide +kernel

theorem test_hyps_HoldAndContinue :
    Case .hold Kind.hold [] (run .running) .ok ∧ Case .hold Kind.hold [] (run .waiting) .ok ∧
      Case .continueRun Kind.continueRun [] (run (.held .running)) .ok ∧
      Case .continueRun Kind.continueRun [] (run (.held .waiting)) .ok ∧
      Case .continueRun Kind.continueRun [] (latchRelease (run (.held .waiting))) .ok ∧
      Case .continueRun Kind.continueRun [] (run (.held .boundary)) .ok := by decide +kernel

theorem test_hyps_ReleaseAndAdvance :
    Case .release Kind.release [] (run .waiting) .ok ∧
      Case .release Kind.release [] (run (.held .boundary)) .ok ∧
      Case .advance Kind.advance [] (run .running) .ok ∧
      EdgeAt (armedEdge .release (run .waiting)) .trgA .release ∧
      EdgeAt (armedEdge .release (run (.held .running))) .trgA .release ∧
      EdgeAt (armedEdge .release (surveying 0)) .trgA .release ∧
      (surveying 0).engine.rotationLive = false ∧
      EdgeAt (armedEdge .advance (run .running)) .trgA .advance ∧
      EdgeAt (armedEdge .advance up) .trgA .advance := by decide +kernel

/-- A step end in the run given. -/
def ending (f : RunFrame) (m : RunMode) (x : Option Splice) : State :=
  let s := struck (run .running)
  { s with
    engine :=
      { s.engine with
        live := some f
        pendingSplice := x
        options := { Options.default with mode := m } } }

/-- Pattern 0's base frame at a vector. -/
def baseAt (i : Nat) : RunFrame := ⟨0, ⟨i, .ascending⟩, 0, some ⟨0, 1⟩⟩

theorem test_hyps_StepEndTakesTheFirstThatApplies :
    StepEndDue (struck (run .running)) .rotation ∧ ¬ StepEndDue (run .running) .rotation ∧
      (stopping .failLimit (struck (run .running))).engine.pendingStop = .failLimit ∧
      (ending (baseAt 0) .oneShot none).moveOn (baseAt 0) [] = .frame (baseAt 1) [] ∧
      (ending (baseAt 1) .oneShot none).moveOn (baseAt 1) [] = .wrap ∧
      (after .stepEnd (ending (baseAt 0) .oneShot (some ⟨1, 0, 0⟩))).engine.stack.length = 1 ∧
      (after .stepEnd (ending (baseAt 1) .oneShot (some ⟨1, 0, 0⟩))).engine.lastStop = .complete ∧
      (after .stepEnd (ending (baseAt 1) .continuous (some ⟨1, 0, 0⟩))).engine.stack.length = 1 ∧
      (after .stepEnd (ending (baseAt 1) .continuous none)).engine.live = some (baseAt 0) ∧
      (after .stepEnd (latchAdvance (ending (baseAt 0) .oneShot none))).engine.lastStop
        = .complete := by decide +kernel

theorem test_hyps_PositionMovesThroughPasses :
    let s := run .running
    positionAfter (s.directionOf (baseAt 0)) 2 ⟨0, .ascending⟩ 1 = some ⟨1, .ascending⟩ ∧
      positionAfter (s.directionOf (baseAt 1)) 2 ⟨1, .ascending⟩ 1 = none ∧
      s.pop [⟨baseAt 0, 1⟩] = .frame (baseAt 1) [] ∧ s.pop [⟨baseAt 0, 2⟩] = .wrap ∧
      s.pop [⟨⟨1, ⟨3, .ascending⟩, 0, none⟩, 1⟩, ⟨baseAt 0, 0⟩] = .frame (baseAt 0) [] ∧
      s.moveOn ⟨0, ⟨1, .ascending⟩, 0, some ⟨0, 2⟩⟩ [] = .frame (baseAt 0) [] := by decide +kernel

theorem test_hyps_ResetEngineValues :
    Case .resetEngine Kind.resetEngine [] (inMode .lockout) .ok ∧
      Case .resetEngine Kind.resetEngine [] (run .running) .ok := by decide +kernel

/-- A run with saved frames. -/
def stacked (n : Nat) (m : EngineState) : State :=
  { run m with
    engine :=
      { (run m).engine with
        live := if n = 0 then some (baseAt 0) else some ⟨1, ⟨0, .ascending⟩, 0, none⟩
        stack := List.replicate (n - 1) ⟨⟨1, ⟨0, .ascending⟩, 0, none⟩, 0⟩
          ++ (if n = 0 then [] else [⟨baseAt 0, 0⟩]) } }

/-- A run with a splice pending. -/
def spliced : State :=
  { run .running with engine := { (run .running).engine with pendingSplice := some ⟨1, 0, 0⟩ } }

/-- The preset of the tests. -/
def preset : TrigAction := .splice ⟨1, 3, 255⟩

theorem test_hyps_SpliceIsRefusedPendingOrTaken :
    Case .splice Kind.splice [32, 0, 0] (run .running) .range ∧
      Case .splice Kind.splice [1, 4, 0] (run .running) .range ∧
      Case .splice Kind.splice [31, 3, 255] (run .running) .notDefined ∧
      Case .splice Kind.splice [1, 3, 255] spliced .busy ∧
      Case .splice Kind.splice [1, 3, 255] (stacked 4 .running) .stackFull ∧
      Case .splice Kind.splice [1, 3, 255] (stacked 3 .running) .ok ∧
      Case .splice Kind.splice [1, 3, 255] (run (.held .running)) .ok ∧
      Case .splice Kind.splice [1, 3, 255] (run .waiting) .ok ∧
      Case .splice Kind.splice [1, 3, 255] (run (.held .waiting)) .ok ∧
      Case .splice Kind.splice [1, 3, 255] (run (.held .boundary)) .ok ∧
      EdgeAt (armedEdge preset (inMode .lockout)) .trgA preset ∧
      EdgeAt (armedEdge preset (surveying 0)) .trgA preset ∧
      EdgeAt (armedEdge preset spliced) .trgA preset ∧
      EdgeAt (armedEdge preset (run .waiting)) .trgA preset ∧
      EdgeAt (armedEdge preset (run (.held .waiting))) .trgA preset ∧
      (run .waiting).engine.rotationLive = true := by decide +kernel

/-- Snapshot 3 as given. -/
def holding (x : Snapshot) (s : State) : State :=
  { s with engine := { s.engine with snapshots := s.engine.snapshots.set 3 x } }

/-- A snapshot of the run at vector 0, with the version and frame given. -/
def snap (v : Count32) (f : SnapFrame) : Snapshot :=
  ⟨.suspended, Options.default, v, 5, 0, [f]⟩

/-- The base frame at a vector, as a snapshot keeps it. -/
def kept (i : Nat) (g : Count32) : SnapFrame :=
  ⟨.base, 0, 0, ⟨i, .ascending⟩, 1, 0, 0, g⟩

theorem test_hyps_SuspendSavesTheRun :
    Case .suspend Kind.suspend [4] (run .running) .range ∧
      Case .suspend Kind.suspend [3] (holding (snap 1 (kept 0 1)) (run .running)) .existsAlready ∧
      Case .suspend Kind.suspend [3] (run (.held .boundary)) .ok ∧
      (run .running).engine.rotationLive = true := by decide +kernel

theorem test_hyps_ResumeRestoresTheRun :
    Case .resume Kind.resume [4] shop .range ∧ Case .resume Kind.resume [3] shop .empty ∧
      Case .resume Kind.resume [3] (holding (snap 2 (kept 0 1)) shop) .stale ∧
      Case .resume Kind.resume [3] (holding (snap 1 (kept 0 2)) shop) .stale ∧
      Case .resume Kind.resume [3] (holding (snap 1 (kept 2 1)) shop) .invalid ∧
      Case .resume Kind.resume [3] (holding (snap 1 (kept 1 1)) shop) .ok ∧
      shop.engine.mode = .idle ∧ (snap 1 (kept 1 1)).frames = [] ++ [kept 1 1] := by decide +kernel

/-- Both requests admitted in a run. -/
def suspendAndResume : State :=
  { run .running with
    link :=
      { up.link with
        requests := [(rq [3]).frame Kind.suspend, (rq [3]).frame Kind.resume] } }

theorem test_hyps_SuspendThenResumeRestoresTheRun :
    Lawful suspendAndResume ∧ suspendAndResume.operating = true ∧
      suspendAndResume.store.pack = none ∧ suspendAndResume.engine.rotationLive = true ∧
      suspendAndResume.rotation.swapWaiting = false ∧
      suspendAndResume.engine.snapshots[(3 : SnapshotId)].state = .empty := by
  refine ⟨⟨?_, ?_, ?_, ?_, ?_, ?_, ?_, ?_, ?_, ?_, ?_, ?_, ?_, ?_, ?_, ?_, ?_, ?_, ?_, ?_⟩, ?_⟩ <;>
    decide +kernel

theorem test_hyps_SnapshotsAreReadLoadedAndDiscarded :
    Case .readSnapshot Kind.readSnapshot [4] shop .range ∧
      Case .readSnapshot Kind.readSnapshot [3] (inMode .lockout) .ok ∧
      Case .loadSnapshot Kind.loadSnapshot (4 :: (snap 1 (kept 0 1)).bytes) shop .range ∧
      Case .loadSnapshot Kind.loadSnapshot (3 :: Snapshot.none.bytes) shop .range ∧
      Case .loadSnapshot Kind.loadSnapshot (3 :: (snap 1 (kept 0 1)).bytes)
        (holding (snap 1 (kept 0 1)) shop) .existsAlready ∧
      Case .loadSnapshot Kind.loadSnapshot (3 :: (snap 1 (kept 65535 1)).bytes) (run .running) .ok ∧
      OptionsInRange (snap 1 (kept 0 1)).options ∧
      (∀ x ∈ [(1, (2 : Byte)), (17, 2), (18, 32), (22, 2), (26, 4)],
        Case .loadSnapshot Kind.loadSnapshot ((3 :: (snap 1 (kept 0 1)).bytes).set x.1 x.2) shop
          .range ∧
        lengthFits ((rq ((3 :: (snap 1 (kept 0 1)).bytes).set x.1 x.2)).frame Kind.loadSnapshot)
          = true) ∧
      Case .discardSnapshot Kind.discardSnapshot [3] (inMode .lockout) .locked ∧
      Case .discardSnapshot Kind.discardSnapshot [4] shop .range ∧
      Case .discardSnapshot Kind.discardSnapshot [3] shop .ok := by decide +kernel

/-- The run with every lane of bank A driven to 0 and expected to be 0. -/
def checking : State :=
  { due (run .running) with
    output := (applied .zero).output
    engine :=
      { (run .running).engine with
        stepRecord := some { VectorRec.blank with expect := Vector.replicate 24 .e0 } } }

/-- Two lanes at the fault threshold. -/
def faulty : State :=
  { checking with
    checker := { Checker.reset with faultThreshold := 1, quarantineLimit := 2 } }

theorem test_hyps_StrobeCountsMismatchesAndFaults :
    StrobeDue checking .rotation ∧ checking.engine.stepRecord.isSome = true ∧
      LaneMismatch checking ⟨1, 1⟩ { VectorRec.blank with expect := Vector.replicate 24 .e0 } 0 ∧
      ¬ LaneMismatch checking ⟨1, 1⟩ { VectorRec.blank with expect := Vector.replicate 24 .e0 } 1 ∧
      LaneFault checking ⟨1, 1⟩ 0 ∧ LaneDriven checking 1 ∧ ¬ LaneFault checking ⟨1, 1⟩ 1 ∧
      ¬ LaneDriven checking 8 ∧ StrobeDue (surveying 0) .survey := by decide +kernel

theorem test_hyps_StrobeLogsQuarantinesAndLocksOut :
    LogLaw faulty ∧ StrobeDue faulty .rotation ∧
      (∀ n : Lane, hasLane 3 n = true ↔ LaneFault faulty ⟨3, 3⟩ n) ∧
      (∀ n : Lane, hasLane 3 n = faulty.sense ⟨3, 3⟩ n) ∧
      (after (.strobe ⟨3, 3⟩) faulty).engine.mode = .lockout ∧
      (after (.strobe ⟨1, 1⟩) faulty).engine.mode = .running ∧
      (after (.strobe ⟨1, 1⟩) faulty).checker.quarantine = 1 ∧
      StrobeDue (surveying 0) .survey ∧ LogLaw (surveying 0) ∧
      ¬ StrobeDue (run .running) .rotation ∧ ¬ StrobeDue (run .running) .survey := by decide +kernel

theorem test_hyps_CheckerSettingsAndQuarantineAreWritten :
    Case .setCheck Kind.setCheck [0, 8, 0] up .range ∧
      Case .setCheck Kind.setCheck [16, 8, 0] up .range ∧
      Case .setCheck Kind.setCheck [3, 0, 0] up .range ∧
      Case .setCheck Kind.setCheck [3, 25, 0] up .range ∧
      Case .setCheck Kind.setCheck [3, 8, 2] up .range ∧
      Case .setCheck Kind.setCheck [15, 24, 1] (inMode .armed) .ok ∧
      Case .setCheck Kind.setCheck [1, 1, 0] up .ok ∧ QuarantineAction.ofByte? 1 = some .stop ∧
      Case .clearLane Kind.clearLane [255, 255, 255] (inMode .lockout) .locked ∧
      Case .clearLane Kind.clearLane [0, 0, 1] (run .running) .state ∧
      Case .clearLane Kind.clearLane [0, 0, 1] (inMode .armed) .ok := by decide +kernel

/-- A log of `n` records. -/
def logged (n : Nat) : State :=
  { up with
    checker :=
      { Checker.reset with failLog := List.replicate n ⟨.quarantine 0, 0, 0, none, 0⟩ } }

theorem test_hyps_FailsAndCountsAreReadAndCleared :
    Case .readFails Kind.readFails [0] up .range ∧ Case .readFails Kind.readFails [9] up .range ∧
      Case .readFails Kind.readFails [8] (logged 64) .ok ∧
      Case .readFails Kind.readFails [8] (logged 7) .ok ∧
      Case .readFails Kind.readFails [1] (logged 1) .ok ∧
      (logged 8).checker.failLog = List.replicate 8 ⟨.quarantine 0, 0, 0, none, 0⟩ ++ [] ∧
      Case .readCounts Kind.readCounts [] (inMode .lockout) .ok := by decide +kernel

theorem test_hyps_SurveyStepsThroughItsParticipants :
    Case .survey Kind.survey [4, 0, 0, 3] shop .range ∧
      Case .survey Kind.survey [3, 0, 0, 1] shop .range ∧
      Case .survey Kind.survey [3, 255, 255, 3] shop .ok ∧ shop.participants 0xFFFF03 = 3 ∧
      laneCount 3 = 2 ∧ shop.engine.mode = .idle ∧
      StepEndDue (struck (surveying 0)) .survey ∧ ¬ StepEndDue (surveying 0) .survey ∧
      (struck (surveying 0)).survey.position = some 0 ∧
      (after .surveyStepEnd (struck (surveying 0))).survey.position = some 1 ∧
      (after .surveyStepEnd (struck (surveying 1))).engine.lastStop = .complete ∧
      LogLaw (surveying 1) ∧
      (after .surveyStepEnd (stopping .failLimit (struck (surveying 0)))).engine.lastStop
        = .failLimit := by decide +kernel

theorem test_hyps_NetMapIsWrittenAndCompared :
    StrobeDue (surveying 0) .survey ∧ (surveying 0).survey.position = some 0 ∧
      (after (.surveyStrobe ⟨2, 2⟩) (surveying 0)).survey.netMap[(0 : Lane)] = some ⟨2, 0, 2⟩ ∧
      (surveying 0).survey.referencePresent = false ∧
      ({ (surveying 0).survey with referencePresent := true } : Survey).comparison = [] := by
  decide +kernel

/-- LOAD_REFERENCE of 24 entries whose presence byte is `p`. -/
def entries (p : Byte) : List Byte := (List.replicate 24 [p, 255, 255, 255]).flatten

theorem test_hyps_ReferenceMapIsWrittenWhole :
    Case .loadReference Kind.loadReference (entries 2) up .range ∧
      Case .loadReference Kind.loadReference (entries 1) (run .running) .ok ∧
      Case .loadReference Kind.loadReference (entries 0) up .ok ∧
      (run .running).engine.surveyLive = false ∧
      Case .adoptReference Kind.adoptReference [] up .empty ∧
      Case .adoptReference Kind.adoptReference []
        { up with survey := { Survey.reset with mapComplete := true } } .ok ∧
      Case .clearReference Kind.clearReference [] (inMode .armed) .ok := by decide +kernel

theorem test_hyps_TriggerInputsAreSetAndSensed :
    up.operating = true ∧ State.reset.operating = false ∧
      (armedEdge .none up).trigger.cfg .trgA = ⟨.rising, .none, false⟩ ∧
      EdgeAt (armedEdge .start up) .trgA .start ∧
      (after (.triggerLevelChange .trgA) (armedEdge .none up)).trigger.trgA.lastLevel = true ∧
      EdgeAt (armedEdge .stop up) .trgA .start = false ∧
      after (.spliceTrigger .trgA) (armedEdge .start up) = armedEdge .start up ∧
      Case .setTrigger Kind.setTrigger [2, 0, 0, 0, 0, 0] shop .range ∧
      Case .setTrigger Kind.setTrigger [1, 3, 0, 0, 0, 0] shop .range ∧
      Case .setTrigger Kind.setTrigger [1, 0, 7, 0, 0, 0] shop .range ∧
      Case .setTrigger Kind.setTrigger [1, 0, 6, 32, 0, 0] shop .range ∧
      Case .setTrigger Kind.setTrigger [1, 0, 6, 1, 4, 0] shop .range ∧
      Case .setTrigger Kind.setTrigger [1, 0, 6, 31, 3, 0] shop .notDefined ∧
      Case .setTrigger Kind.setTrigger [1, 2, 6, 1, 3, 255] (inMode .armed) .ok ∧
      Case .setTrigger Kind.setTrigger [0, 0, 5, 255, 255, 255] shop .ok ∧
      TrigAction.plain? 5 = some .capture := by decide +kernel

theorem test_hyps_CapturesAreKept :
    Case .capture Kind.capture [] (run .waiting) .ok ∧
      EdgeAt (armedEdge .capture (run .running)) .trgA .capture ∧
      EdgeAt (armedEdge .capture up) .trgA .capture ∧ up.engine.mode.isLive = false ∧
      (stacked 4 .running).engine.baseSlot = 0 := by
  decide +kernel

theorem test_hyps_ReadingRepliesChangeNothing :
    Case .position Kind.position [] (stacked 4 .waiting) .ok ∧
      Case .readRotation Kind.readRotation [2] up .range ∧
      Case .readRotation Kind.readRotation [1] shop .ok ∧
      Case .readRotation Kind.readRotation [0] shop .ok ∧
      Case .readNetMap Kind.readNetMap [] (inMode .lockout) .ok ∧
      expectedBytes none = [0xFF, 0xFF, 0xFF] ∧ up.survey.firstCounter = 0xFFFFFFFF ∧
      (after (.surveyStrobe ⟨2, 2⟩) (surveying 0)).survey.firstCounter = 0 ∧
      Case .readCapture Kind.readCapture [] up .ok := by decide +kernel

/-- The invariants' hypotheses: a run, lawful, with a command that makes a step. -/
theorem test_hyps_StepKeepsEveryLaw :
    Lawful (run .running) ∧ ∃ t, step (run .running) = .next t := by
  refine ⟨⟨?_, ?_, ?_, ?_, ?_, ?_, ?_, ?_, ?_, ?_, ?_, ?_, ?_, ?_, ?_, ?_, ?_, ?_, ?_, ?_⟩, _, rfl⟩ <;>
    decide +kernel

end Sys2Proof.Tests
end

section
/-! SUPPORT. The request rows by their bodies: which body works out which row, what a row in service
answers, and what the length check of R171 says of a payload. -/

namespace Sys2Proof.Machine

open Safety

/-! ## A row's body -/

/-- The body that works out a request row: every request but PACK_STORE, whose reply may come later
(R36, R171). -/
def bodyOf : Instr → Option (List Byte → State → Served)
  | .badKind _ => some fun _ t => refuse .badKind t
  | .status _ => some serveStatus
  | .position _ => some servePosition
  | .resetEngine _ => some serveResetEngine
  | .noticeMask _ => some serveNoticeMask
  | .setBank _ => some serveSetBank
  | .setIdlePolicy _ => some serveSetIdlePolicy
  | .stageStatic _ => some serveStageStatic
  | .applyStatic _ => some serveApplyStatic
  | .readLanes _ a => some (serveReadLanes a)
  | .definePattern _ => some serveDefinePattern
  | .defineGenerator _ => some serveDefineGenerator
  | .writeVectors _ => some serveWriteVectors
  | .readVectors _ => some serveReadVectors
  | .deletePattern _ => some serveDeletePattern
  | .listPatterns _ => some serveListPatterns
  | .setTiming _ => some serveSetTiming
  | .readTiming _ => some serveReadTiming
  | .editSlot _ => some serveEditSlot
  | .setSlotCount _ => some serveSetSlotCount
  | .readRotation _ => some serveReadRotation
  | .commitRotation _ => some serveCommitRotation
  | .withdrawCommit _ => some serveWithdrawCommit
  | .arm _ => some serveArm
  | .disarm _ => some serveDisarm
  | .start _ => some serveStart
  | .stop _ => some serveStop
  | .hold _ => some serveHold
  | .continueRun _ => some serveContinueRun
  | .release _ => some serveRelease
  | .advance _ => some serveAdvance
  | .splice _ => some serveSplice
  | .suspend _ => some serveSuspend
  | .resume _ => some serveResume
  | .readSnapshot _ => some serveReadSnapshot
  | .loadSnapshot _ => some serveLoadSnapshot
  | .discardSnapshot _ => some serveDiscardSnapshot
  | .setCheck _ => some serveSetCheck
  | .clearLane _ => some serveClearLane
  | .readFails _ => some serveReadFails
  | .readCounts _ => some serveReadCounts
  | .survey _ => some serveSurvey
  | .readNetMap _ => some serveReadNetMap
  | .loadReference _ => some serveLoadReference
  | .adoptReference _ => some serveAdoptReference
  | .clearReference _ => some serveClearReference
  | .setTrigger _ => some serveSetTrigger
  | .capture _ => some serveCapture
  | .readCapture _ => some serveReadCapture
  | _ => none

/-- A request row is the service of its frame by its body; a BAD_KIND row is one where its kind
makes it well-formed. -/
theorem exec_eq_serveRequest {i : Instr} {f : LinkFrame} {body : List Byte → State → Served}
    (hk : i.kindWf = true) (hf : i.frame? = some f) (hb : bodyOf i = some body) (s : State) :
    exec i s = .next (serveRequest f body s) := by
  cases i
  case badKind g =>
    obtain rfl : g = f := Option.some.inj hf
    obtain rfl := Option.some.inj hb
    exact congrArg Host.Outcome.next (if_pos hk)
  all_goals cases hb
  all_goals cases hf; rfl

/-- A row with a body serves a frame. -/
theorem frame?_of_bodyOf {i : Instr} {body : List Byte → State → Served}
    (hb : bodyOf i = some body) : ∃ f, i.frame? = some f := by
  cases i <;> cases hb <;> exact ⟨_, rfl⟩

/-- A row that its kind makes ill-formed, a BAD_KIND of another kind, does not occur (log 2). -/
theorem exec_of_not_kindWf {i : Instr} (hk : ¬ i.kindWf = true) (s : State) :
    exec i s = .next s := by
  cases i
  case badKind g => exact congrArg Host.Outcome.next (if_neg hk)
  all_goals exact absurd rfl hk

/-- A request row in service is worked out by its body and answered (R171). -/
theorem exec_serving {i : Instr} {f : LinkFrame} {body : List Byte → State → Served} {s : State}
    (hk : i.kindWf = true) (hf : i.frame? = some f) (hb : bodyOf i = some body)
    (hs : Serving s f) : exec i s = .next (answered f (body f.payload s)) := by
  rw [exec_eq_serveRequest hk hf hb, serveRequest_serving hs]

/-- A request row in service whose body refuses it leaves all but the link as it was (R171). -/
theorem exec_of_refuse {i : Instr} {f : LinkFrame} {body : List Byte → State → Served} {s : State}
    {st : Status} (hk : i.kindWf = true) (hf : i.frame? = some f) (hb : bodyOf i = some body)
    (hs : Serving s f) (hr : body f.payload s = refuse st s) :
    exec i s = .next (replied s f st []) := by
  rw [exec_serving hk hf hb hs, hr, answered_refuse]

/-- A request row in service whose body accepts it leaves the body's state with the OK reply
placed. -/
theorem exec_of_accept {i : Instr} {f : LinkFrame} {body : List Byte → State → Served}
    {s t : State} {results : List Byte} (hk : i.kindWf = true) (hf : i.frame? = some f)
    (hb : bodyOf i = some body) (hs : Serving s f)
    (ha : body f.payload s = accept t results) : exec i s = .next (replied t f .ok results) := by
  rw [exec_serving hk hf hb hs, ha]
  rfl

/-! ## Payload lengths (R171, R178) -/

/-- The request kind table names each kind once. -/
theorem fixedLengths_lookup : ∀ x ∈ fixedLengths, fixedLengths.lookup x.1 = some x.2 := by
  decide +kernel

/-- A payload of the right length, for a kind whose length is one number. -/
theorem length_of_lengthFits {f : LinkFrame} {n : Nat} (h : lengthFits f = true)
    (hk : fixedLengths.lookup f.kind = some n) : f.payload.length = n := by
  unfold lengthFits at h
  split at h
  · next hw => rw [hw] at hk; cases hk
  split at h
  · next hl => rw [hl] at hk; cases hk
  have hmem : (f.kind, f.payload.length) ∈ fixedLengths := by simpa using h
  have hlook := fixedLengths_lookup _ hmem
  exact Option.some.inj (hlook.symm.trans hk)

/-! ## What LOCKOUT refuses (R143) -/

/-- In LOCKOUT a request behind the first check is refused LOCKED. -/
theorem unlessLocked_lockout {s : State} (h : s.engine.mode = .lockout) (k : Served) :
    unlessLocked s k = refuse .locked s := if_pos h

/-- Outside LOCKOUT that check lets a request through. -/
theorem unlessLocked_of_ne {s : State} (h : s.engine.mode ≠ .lockout) (k : Served) :
    unlessLocked s k = k := if_neg h

/-- A body is known on payloads of a length once it is known on `n` bytes written out. -/
theorem body_of_length {n : Nat} {body : List Byte → State → Served} {p : List Byte} {s : State}
    {w : Served} (hl : p.length = n) (h : ∀ g : Fin n → Byte, body (List.ofFn g) s = w) :
    body p s = w := by
  subst hl
  simpa using h p.get

/-- SPLICE answers what its first checks refuse it with (R103 checks 1, 2). -/
theorem splice_of_gate {s : State} {st : Status} (h : s.spliceGate = some st)
    (pattern timing skip : Byte) : splice pattern timing skip s = refuse st s := by
  simp only [splice, h]

/-- WRITE_VECTORS with a payload of its length is refused LOCKED in LOCKOUT. -/
theorem serveWriteVectors_lockout {p : List Byte} {s : State} (hm : s.engine.mode = .lockout)
    (h4 : 4 ≤ p.length) (hl : p.length = 4 + 13 * (p.getD 3 0).toNat) :
    serveWriteVectors p s = refuse .locked s := by
  match p, h4 with
  | _ :: _ :: _ :: d :: q, _ =>
    have hq : q.length = 13 * d.toNat := by simpa [Nat.add_comm 4] using hl
    exact (if_pos hq).trans (unlessLocked_lockout hm _)

/-- In LOCKOUT every request row of correct length outside R143's list is refused LOCKED by its
body, before any other check. -/
theorem body_locked {i : Instr} {f : LinkFrame} {body : List Byte → State → Served} {s : State}
    (hw : i.kindWf = true) (hf : i.frame? = some f) (hb : bodyOf i = some body)
    (hk : isKnownKind f.kind = true) (hfit : lengthFits f = true) (hm : s.engine.mode = .lockout)
    (hn : servedInLockout.contains f.kind = false) : body f.payload s = refuse .locked s := by
  have hlen : ∀ n, fixedLengths.lookup f.kind = some n → f.payload.length = n :=
    fun _ => length_of_lengthFits hfit
  cases i <;> cases hb <;> cases hf
  case badKind => simp [Instr.kindWf, hk] at hw
  case writeVectors r =>
    have hfit : (4 ≤ r.payload.length && r.payload.length = 4 + 13 * (r.payload.getD 3 0).toNat)
        = true := hfit
    simp only [Bool.and_eq_true, decide_eq_true_eq] at hfit
    exact serveWriteVectors_lockout hm hfit.1 hfit.2
  case loadSnapshot => exact (if_pos hfit).trans (unlessLocked_lockout hm _)
  case splice => exact body_of_length (hlen _ rfl) fun _ => splice_of_gate (if_pos hm) _ _ _
  case' status | position | readFails | readCounts | readLanes | readCapture | readNetMap |
    listPatterns | readVectors | readRotation | readSnapshot | resetEngine => cases hn
  all_goals exact body_of_length (hlen _ rfl) fun _ => unlessLocked_lockout hm _

/-! ## What the engine state refuses -/

/-- No request is refused STATE in LOCKOUT, which refuses LOCKED first. -/
theorem ne_lockout_of_refusedState {e : Engine} {k : Byte} (h : refusedState e k = true) :
    e.mode ≠ .lockout := by
  intro hm
  simp [refusedState, Engine.surveyLive, EngineState.isLive, EngineState.origin?, hm] at h

/-- No rotation run is live in IDLE, in ARMED and in a survey. -/
theorem rotationLive_of_no_rotation {e : Engine}
    (h : (e.mode = .idle ∨ e.mode = .armed) ∨ e.surveyLive = true) : e.rotationLive = false := by
  rcases h with (h | h) | h
  · simp [Engine.rotationLive, EngineState.isLive, h]
  · simp [Engine.rotationLive, EngineState.isLive, h]
  · simp only [Engine.surveyLive, Bool.and_eq_true, beq_iff_eq] at h
    simp [Engine.rotationLive, h.2]

/-- SPLICE's gate without a live rotation run (R103 check 2). -/
theorem spliceGate_state {s : State} (hne : s.engine.mode ≠ .lockout)
    (h : s.engine.rotationLive = false) : s.spliceGate = some .state := by
  simp [State.spliceGate, hne, h]

/-- The engine state that refuses PACK_STORE, RESUME and SURVEY is not IDLE. -/
theorem ne_idle_of_live_or_armed {m : EngineState} (h : m.isLive = true ∨ m = .armed) :
    m ≠ .idle := by
  rintro rfl
  rcases h with h | h <;> cases h

/-- Every request row of correct length that the engine state refuses STATE is so refused by its
body. -/
theorem body_refusesState {i : Instr} {f : LinkFrame} {body : List Byte → State → Served}
    {s : State} (hw : i.kindWf = true) (hf : i.frame? = some f) (hb : bodyOf i = some body)
    (hk : isKnownKind f.kind = true) (hfit : lengthFits f = true)
    (hr : refusedState s.engine f.kind = true) : body f.payload s = refuse .state s := by
  have hlen : ∀ n, fixedLengths.lookup f.kind = some n → f.payload.length = n :=
    fun _ => length_of_lengthFits hfit
  have hne := ne_lockout_of_refusedState hr
  have pass : ∀ k, unlessLocked s k = k := unlessLocked_of_ne hne
  cases i <;> cases hb <;> cases hf
  case badKind => simp [Instr.kindWf, hk] at hw
  all_goals
    simp (decide := true) only [refusedState, Req.frame, Bool.or_eq_true, Bool.and_eq_true,
      decide_eq_true_eq, and_true, and_false, or_false, false_or, or_self] at hr
  case hold =>
    refine body_of_length (hlen _ rfl) fun _ => (pass _).trans ?_
    rcases hr with (h | h) | h
    · simp [h]
    · simp [h]
    · cases hm : s.engine.mode <;> simp [hm, EngineState.origin?] at h ⊢
  case continueRun =>
    have ho : s.engine.mode.origin? = none := by
      rcases hr with (h | h) | h | h <;> simp [h, EngineState.origin?]
    refine body_of_length (hlen _ rfl) fun _ => (pass _).trans ?_
    simp only [ho]
  case release =>
    have ht : s.engine.takesRelease = false := by
      rcases hr with h | h
      · simp [Engine.takesRelease, rotationLive_of_no_rotation h]
      · simp [Engine.takesRelease, h]
    exact body_of_length (hlen _ rfl) fun _ => (pass _).trans (if_neg (by simp [ht]))
  case resume | survey =>
    exact body_of_length (hlen _ rfl) fun _ =>
      (pass _).trans (if_pos (ne_idle_of_live_or_armed hr))
  case advance =>
    exact body_of_length (hlen _ rfl) fun _ => (pass _).trans
      (if_neg (by simp [rotationLive_of_no_rotation hr]))
  case suspend =>
    exact body_of_length (hlen _ rfl) fun _ => (pass _).trans
      (if_pos (by simp [rotationLive_of_no_rotation hr]))
  case splice =>
    exact body_of_length (hlen _ rfl) fun _ =>
       splice_of_gate (spliceGate_state hne (rotationLive_of_no_rotation hr)) _ _ _
  case disarm | start =>
    refine body_of_length (hlen _ rfl) fun _ => (pass _).trans (if_neg ?_)
    intro hm
    rcases hr with h | h <;> simp [hm, EngineState.isLive] at h
  case capture =>
    refine body_of_length (hlen _ rfl) fun _ => (pass _).trans (if_neg ?_)
    rcases hr with h | h <;> simp [h, EngineState.isLive]
  all_goals
    exact body_of_length (hlen _ rfl) fun _ => (pass _).trans (if_pos hr)

/-- PACK_STORE of correct length in LOCKOUT. -/
theorem packStore_lockout {f : LinkFrame} {s : State} (hp : f.payload = [])
    (hm : s.engine.mode = .lockout) : packStore f s = replied s f .locked [] := by
  simp [packStore, hp, hm, answered_refuse]

/-- PACK_STORE of correct length outside IDLE and LOCKOUT. -/
theorem packStore_refusesState {f : LinkFrame} {s : State} (hp : f.payload = [])
    (hne : s.engine.mode ≠ .lockout) (hi : s.engine.mode ≠ .idle) :
    packStore f s = replied s f .state [] := by
  simp [packStore, hp, hne, hi, answered_refuse]

/-- A row without a body that serves a frame is PACK_STORE. -/
theorem packStore_of_bodyOf_none {i : Instr} {f : LinkFrame} (hf : i.frame? = some f)
    (hb : bodyOf i = none) : ∃ r : Req, i = .packStore r ∧ f = r.frame Kind.packStore := by
  cases i <;> cases hb <;> cases hf
  exact ⟨_, rfl, rfl⟩

/-- A frame of the length that the table gives its kind is of a kind in the table (R171, R178). -/
theorem known_of_lengthFits {f : LinkFrame} (h : lengthFits f = true) :
    isKnownKind f.kind = true := by
  unfold lengthFits at h
  split at h
  · next hk => rw [hk]; rfl
  split at h
  · next hk => rw [hk]; rfl
  have hall : ∀ x ∈ fixedLengths, isKnownKind x.1 = true := by decide +kernel
  exact hall (f.kind, f.payload.length) (by simpa using h)

/-- Settles O12: both parts by the row's body, row by row, and PACK_STORE, which has none, by
itself. -/
theorem engineStateRefusesRequests : Obligations.EngineStateRefusesRequests := by
  unfold Obligations.EngineStateRefusesRequests
  refine ⟨fun i f s hw hf _ hfit hs hm hn => ?_, fun i f s hw hf hfit hs hr => ?_⟩
  · have hk := known_of_lengthFits hfit
    cases hb : bodyOf i with
    | some body =>
      exact exec_of_refuse hw hf hb hs (body_locked hw hf hb hk hfit hm (by simpa using hn))
    | none =>
      obtain ⟨r, rfl, rfl⟩ := packStore_of_bodyOf_none hf hb
      have hp := List.eq_nil_of_length_eq_zero (length_of_lengthFits hfit rfl)
      exact congrArg Host.Outcome.next
        ((serveFrame_serving hs _).trans (packStore_lockout hp hm))
  · have hk := known_of_lengthFits hfit
    cases hb : bodyOf i with
    | some body => exact exec_of_refuse hw hf hb hs (body_refusesState hw hf hb hk hfit hr)
    | none =>
      obtain ⟨r, rfl, rfl⟩ := packStore_of_bodyOf_none hf hb
      have hp := List.eq_nil_of_length_eq_zero (length_of_lengthFits hfit rfl)
      have hne := ne_lockout_of_refusedState hr
      simp (decide := true) only [refusedState, Req.frame, Bool.or_eq_true, Bool.and_eq_true,
        decide_eq_true_eq, and_true, and_false, or_false] at hr
      exact congrArg Host.Outcome.next ((serveFrame_serving hs _).trans
        (packStore_refusesState hp hne (ne_idle_of_live_or_armed hr)))

end Sys2Proof.Machine
end

section
/-! SUPPORT. The run end and the engine reset, each written out as one state (R94, R100), and the
pins RUNNING and LOCK that follow from them (R74). -/

namespace Sys2Proof.Machine

open Safety

/-- States with the same blocks are equal. -/
theorem state_ext {s t : State} (pending : s.pending = t.pending) (link : s.link = t.link)
    (store : s.store = t.store) (timing : s.timing = t.timing) (rotation : s.rotation = t.rotation)
    (engine : s.engine = t.engine) (output : s.output = t.output) (checker : s.checker = t.checker)
    (survey : s.survey = t.survey) (trigger : s.trigger = t.trigger) : s = t := by
  cases s
  cases t
  simp only at *
  simp only [*]

/-! ## The verdict and the engine state a run end leaves (R94, R96) -/

theorem verdictOf_fail {c : StopCause} {n : Nat} {q k : Bool} (h : 0 < n ∨ q = true ∨ k = true) :
    verdictOf c n q k = .fail :=
  if_pos (by simpa [or_assoc] using h)

theorem verdictOf_of_not_failed {c : StopCause} {n : Nat} {q k : Bool}
    (h : ¬ (0 < n ∨ q = true ∨ k = true)) :
    verdictOf c n q k = if c = .complete then .pass else .incomplete :=
  if_neg (by simpa [or_assoc] using h)

theorem keepsLevels_iff (c : StopCause) :
    c.keepsLevels = true ↔ c = .lockout ∨ c = .engineReset := by
  simp [StopCause.keepsLevels]

/-! ## The run end as one event (R94) -/

/-- The link after a waiting swap of a run end is carried out: SWAP_DONE with its manner (R66). -/
theorem swapIfWaiting_link (m : SwapManner) (s : State) :
    (swapIfWaiting m s).link =
      if s.rotation.swapWaiting then
        s.link.notice .swapDone
          (bytesC (s.rotation.version + 1) ++ byte s.rotation.pendingRot.count ++ [m.code])
      else s.link := by
  unfold swapIfWaiting
  split <;> rfl

/-- The rotation unit after a waiting swap is carried out (R66). -/
theorem swapIfWaiting_rotation (m : SwapManner) (s : State) :
    (swapIfWaiting m s).rotation =
      if s.rotation.swapWaiting then
        { active := s.rotation.pendingRot
          pendingRot := s.rotation.pendingRot
          version := s.rotation.version + 1
          swapWaiting := false }
      else s.rotation := by
  unfold swapIfWaiting
  split <;> rfl

/-- The link after a run end: SWAP_DONE of a waiting swap, then RUN_END (R94 steps 4, 6). -/
theorem runEnd_link (c : StopCause) (s : State) :
    (runEnd c s).link =
      (swapIfWaiting .runEnd s).link.notice .runEnd
        ([c.code, (runEnd c s).engine.verdict.code, s.engine.runKind.code]
          ++ bytesC s.engine.stepCounter ++ bytes2 s.checker.failingSteps) := by
  rw [runEnd_engine, swapIfWaiting_link]
  simp [runEnd, closeRun, recordEnd, endSteps, State.runEndPayload, swapIfWaiting_link,
    Engine.clearRun]

/-! ## The idle policies (R9, R10) -/

/-- The idle policy writes the lanes' levels and nothing else. -/
theorem applyIdle_frame (o : Output) :
    o.applyIdle = { o with staging := o.applyIdle.staging, applied := o.applyIdle.applied } := by
  unfold Output.applyIdle
  split <;> rfl

theorem applyIdle_retain {o : Output} (h : o.idlePolicy = .retain) :
    o.applyIdle = { o with staging := o.applied } := by
  simp only [Output.applyIdle, h]

theorem holdAll_levels (o : Output) (l : Level) (n : Lane) :
    (o.holdAll l).staging[n] = l ∧ (o.holdAll l).applied[n] = l := by
  simp [Output.holdAll]

/-- Settles O33: the run end block by block, with the verdict of R96, and each idle policy. -/
theorem runEndIsOneEvent : Obligations.RunEndIsOneEvent := by
  unfold Obligations.RunEndIsOneEvent
  refine ⟨fun c s => ?_, fun o n => ?_⟩
  · refine ⟨verdictOf c s.checker.failingSteps s.engine.quarantineInRun s.engine.continuityFail,
      verdictOf_fail, fun h hc => ?_, fun h hc => ?_, ?_⟩
    · rw [verdictOf_of_not_failed h, if_pos hc]
    · rw [verdictOf_of_not_failed h, if_neg hc]
    · apply state_ext
      case link =>
        rw [runEnd_link, runEnd_engine, swapIfWaiting_link]
        rfl
      case rotation => rw [runEnd_rotation, swapIfWaiting_rotation]
      case output => simp only [runEnd_output, keepsLevels_iff]
      case engine => simp only [runEnd_engine, Engine.clearRun, StopCause.modeAfter]
      case timing => exact runEnd_timing c s
      case survey => exact runEnd_survey c s
      case pending => exact runEnd_pending c s
      case store => exact runEnd_store c s
      case checker => exact runEnd_checker c s
      case trigger => exact runEnd_trigger c s
  · refine ⟨applyIdle_frame o, fun h => ?_, fun h => ?_, fun h => ?_, fun h => ?_⟩
    · rw [applyIdle_retain h]
      exact ⟨rfl, rfl⟩
    all_goals simp only [Output.applyIdle, h, holdAll_levels, and_self]

/-! ## The engine reset (R100) -/

@[simp] theorem runEnd_snapshots (c : StopCause) (s : State) :
    (runEnd c s).engine.snapshots = s.engine.snapshots := by
  rw [runEnd_engine]
  rfl

/-- What every run end keeps, the end of a live run keeps. -/
theorem liveRunEnd_keeps {α : Type} (get : State → α) {c : StopCause} {s : State}
    (h : get (runEnd c s) = get s) :
    get (if s.engine.mode.isLive then runEnd c s else s) = get s := by
  split
  · exact h
  · rfl

/-- Settles O39: the run end keeps what an engine reset keeps of the snapshots, the checker, the
reference map and the triggers, so the reset values may be read off the state before it. -/
theorem resetEngineValues : Obligations.ResetEngineValues := by
  unfold Obligations.ResetEngineValues
  intro r s hp hs w
  have hw : engineReset s = resetBlocks w := rfl
  have hsnap : w.engine.snapshots = s.engine.snapshots :=
    liveRunEnd_keeps (fun t => t.engine.snapshots) (runEnd_snapshots _ _)
  have hcheck : w.checker = s.checker := liveRunEnd_keeps State.checker (runEnd_checker _ _)
  have htrig : w.trigger = s.trigger := liveRunEnd_keeps State.trigger (runEnd_trigger _ _)
  have href : w.survey.reference = s.survey.reference :=
    liveRunEnd_keeps (fun t => t.survey.reference) (by rw [runEnd_survey])
  have hpres : w.survey.referencePresent = s.survey.referencePresent :=
    liveRunEnd_keeps (fun t => t.survey.referencePresent) (by rw [runEnd_survey])
  rw [← hsnap, ← hcheck, ← htrig, ← href, ← hpres]
  refine exec_of_accept rfl rfl rfl hs ?_
  rw [show (r.frame Kind.resetEngine).payload = [] from hp]
  exact congrArg (fun t => accept t []) hw

/-! ## The pins RUNNING and LOCK (R74) -/

theorem isLive_iff (m : EngineState) :
    m.isLive = true ↔ m = .running ∨ m = .waiting ∨ ∃ o, m = .held o := by
  cases m <;> simp [EngineState.isLive]

theorem lockPin_iff (e : Engine) : e.lockPin = true ↔ e.mode = .lockout := by
  simp [Engine.lockPin]

/-- Both pins are deasserted in IDLE. -/
theorem pins_of_idle {e : Engine} (h : e.mode = .idle) :
    e.runningPin = false ∧ e.lockPin = false := by
  simp [Engine.runningPin, Engine.lockPin, EngineState.isLive, h]

/-- The engine is IDLE in start-up and while a pack is in progress. -/
theorem idle_of_startUp_or_pack {s : State}
    (h : s.operating = false ∧ StartUpLaw s ∨ s.store.pack.isSome = true ∧ PackLaw s) :
    s.engine.mode = .idle := by
  rcases h with ⟨ho, hlaw⟩ | ⟨hsome, hlaw⟩
  · exact (hlaw ho).2.2
  · obtain ⟨k, hk⟩ := Option.isSome_iff_exists.1 hsome
    exact (hlaw k hk).1

/-- A lane's pin is released where its bank is disabled, where it is quarantined, and in LOCKOUT. -/
theorem pinLevel_released {s : State} {n : Lane}
    (h : (s.output.cfg n).enable = false ∨ hasLane s.checker.quarantine n = true ∨
      s.engine.mode = .lockout) : s.pinLevel n = .released :=
  if_pos (by simpa [or_assoc] using h)

/-- Elsewhere it presents its applied level under its bank's inversion. -/
theorem pinLevel_applied {s : State} {n : Lane} (he : (s.output.cfg n).enable = true)
    (hq : hasLane s.checker.quarantine n = false) (hm : s.engine.mode ≠ .lockout) :
    s.pinLevel n = s.output.applied[n].toPin (s.output.cfg n).invert :=
  if_neg (by simp [he, hq, hm])

/-- Settles O16: the pins by the engine state that each of the moments leaves. -/
theorem pinFollowsAppliedLevel : Obligations.PinFollowsAppliedLevel := by
  unfold Obligations.PinFollowsAppliedLevel
  refine ⟨fun s => ⟨isLive_iff _, lockPin_iff _, ⟨runEnd_isLive _ _, ?_⟩, pins_of_idle rfl,
    fun h => pins_of_idle (idle_of_startUp_or_pack h)⟩, fun s n => ⟨pinLevel_released, ?_⟩⟩
  · rw [lockPin_iff, runEnd_engine]
    rfl
  · intro he hq hm
    rw [pinLevel_applied he hq hm]
    refine ⟨fun h => ?_, fun h => ?_, fun h => ?_⟩ <;> rw [h] <;> rfl

end Sys2Proof.Machine
end

section
/-! SUPPORT. The output stage lane by lane: what staging, the two copies and SET_BANK write, and what
a vector record's bytes hold (R2, R3, R4, R178). -/

namespace Sys2Proof.Machine

open Safety

/-! ## Banks (R4, R11) -/

@[simp] theorem putBank_bank_same (o : Output) (w : Bank) (c : BankCfg) :
    (o.putBank w c).bank w = c := by
  cases w <;> rfl

theorem putBank_bank_other (o : Output) {w w' : Bank} (c : BankCfg) (h : w' ≠ w) :
    (o.putBank w c).bank w' = o.bank w' := by
  cases w <;> cases w' <;> simp [Output.putBank, Output.bank] at h ⊢

@[simp] theorem putBank_staging (o : Output) (w : Bank) (c : BankCfg) :
    (o.putBank w c).staging = o.staging := by
  cases w <;> rfl

@[simp] theorem putBank_idlePolicy (o : Output) (w : Bank) (c : BankCfg) :
    (o.putBank w c).idlePolicy = o.idlePolicy := by
  cases w <;> rfl

/-- SET_BANK's settings are those of the bank replaced; its copy writes applied levels alone. -/
@[simp] theorem setBank_bank (o : Output) (w w' : Bank) (c : BankCfg) :
    (o.setBank w c).bank w' = (o.putBank w c).bank w' := by
  cases w' <;> simp only [Output.setBank, Output.bank]

@[simp] theorem setBank_staging (o : Output) (w : Bank) (c : BankCfg) :
    (o.setBank w c).staging = o.staging := by
  simp only [Output.setBank, putBank_staging]

@[simp] theorem setBank_idlePolicy (o : Output) (w : Bank) (c : BankCfg) :
    (o.setBank w c).idlePolicy = o.idlePolicy := by
  simp only [Output.setBank, putBank_idlePolicy]

theorem setBank_applied (o : Output) (w : Bank) (c : BankCfg) (n : Lane) :
    (o.setBank w c).applied[n] =
      if bankOf n = w ∧ (o.bank w).mode = .latched ∧ c.mode = .follow then o.staging[n]
      else o.applied[n] := by
  simp [Output.setBank, and_assoc]

/-- A yes-or-no byte is yes unless it is 0 (R177). -/
theorem yes_eq (b : Byte) : yes b = decide (b ≠ 0) := by
  simp [yes, bne, beq_eq_decide]

/-- A yes-or-no byte as a reply writes it again. -/
theorem bytesB_yes (b : Byte) : bytesB (yes b) = [if b = 0 then 0 else 1] := by
  by_cases h : b = 0 <;> simp [bytesB, yes, h]

/-- No run is live in IDLE and in ARMED, and neither is LOCKOUT. -/
theorem not_live_of_idle_or_armed {m : EngineState} (h : m = .idle ∨ m = .armed) :
    m.isLive = false ∧ m ≠ .lockout := by
  rcases h with rfl | rfl <;> exact ⟨rfl, nofun⟩

/-- SET_BANK outside a run and LOCKOUT: RANGE where a byte names no bank or no mode. -/
theorem setBank_range {s : State} {bank mode invert enable : Byte}
    (hm : s.engine.mode = .idle ∨ s.engine.mode = .armed)
    (h : Bank.ofByte? bank = none ∨ BankMode.ofByte? mode = none) :
    setBank bank mode invert enable s = refuse .range s := by
  obtain ⟨hlive, hlock⟩ := not_live_of_idle_or_armed hm
  rw [setBank, unlessLocked_of_ne hlock, if_neg (by simp [hlive])]
  rcases h with h | h <;> rw [h]
  cases Bank.ofByte? bank <;> rfl

/-- SET_BANK outside a run and LOCKOUT: the settings written and replied. -/
theorem setBank_accept {s : State} {bank mode invert enable : Byte} {w : Bank} {m : BankMode}
    (hm : s.engine.mode = .idle ∨ s.engine.mode = .armed) (hw : Bank.ofByte? bank = some w)
    (hmode : BankMode.ofByte? mode = some m) :
    setBank bank mode invert enable s =
      accept (s.withOutput (s.output.setBank w ⟨m, yes invert, yes enable⟩))
        [m.code, if invert = 0 then 0 else 1, if enable = 0 then 0 else 1] := by
  obtain ⟨hlive, hlock⟩ := not_live_of_idle_or_armed hm
  rw [setBank, unlessLocked_of_ne hlock, if_neg (by simp [hlive]), hw, hmode]
  simp [BankCfg.bytes, bytesB_yes]

/-- Settles O14: the settings written are those that the payload's bytes name. -/
theorem outputSettingsAreWritten : Obligations.OutputSettingsAreWritten := by
  unfold Obligations.OutputSettingsAreWritten
  refine ⟨fun r s bank mode invert enable hp hs hm => ?_, fun r s policy hp hs hm => ?_⟩
  · have hbody : serveSetBank (r.frame Kind.setBank).payload s =
        setBank bank mode invert enable s := by rw [Req.frame, hp, serveSetBank]
    refine ⟨fun h => exec_of_refuse rfl rfl rfl hs (hbody.trans (setBank_range hm h)),
      fun w m hw hmode => ?_⟩
    refine ⟨s.output.setBank w ⟨m, yes invert, yes enable⟩,
      exec_of_accept rfl rfl rfl hs (hbody.trans (setBank_accept hm hw hmode)), ?_, fun w' h => ?_,
      setBank_staging _ _ _, setBank_idlePolicy _ _ _, setBank_applied _ _ _⟩
    · rw [setBank_bank, putBank_bank_same, yes_eq, yes_eq]
    · rw [setBank_bank, putBank_bank_other _ _ h]
  · have hbody : serveSetIdlePolicy (r.frame Kind.setIdlePolicy).payload s =
        setIdlePolicy policy s := by rw [Req.frame, hp, serveSetIdlePolicy]
    rw [setIdlePolicy, unlessLocked_of_ne hm] at hbody
    refine ⟨fun h => exec_of_refuse rfl rfl rfl hs ?_, fun p h => exec_of_accept rfl rfl rfl hs ?_⟩
    · rw [hbody, h]
    · rw [hbody, h]
      rfl

/-! ## Staging and the copies (R2 to R4) -/

theorem followCopy_applied (o : Output) (n : Lane) :
    o.followCopy.applied[n] =
      if (o.cfg n).mode = .follow then o.staging[n] else o.applied[n] := by
  simp [Output.followCopy]

theorem latchedCopy_applied (o : Output) (n : Lane) :
    o.latchedCopy.applied[n] =
      if (o.cfg n).mode = .latched then o.staging[n] else o.applied[n] := by
  simp [Output.latchedCopy]

/-- Staging and the copies write levels alone, so every bank keeps its settings. -/
theorem cfg_of_levels (o : Output) (l k : Lanes Level) (n : Lane) :
    ({ o with staging := l, applied := k } : Output).cfg n = o.cfg n := by
  unfold Output.cfg
  cases bankOf n <;> rfl

theorem stage_staging (o : Output) (d : Lanes Drive) (n : Lane) :
    (o.stage d).staging[n] = d[n].onto o.staging[n] := by
  simp [Output.stage, Output.followCopy]

theorem stage_applied (o : Output) (d : Lanes Drive) (n : Lane) :
    (o.stage d).applied[n] =
      if (o.cfg n).mode = .follow then (o.stage d).staging[n] else o.applied[n] := by
  rw [stage_staging, Output.stage, followCopy_applied, cfg_of_levels]
  simp

/-! ## A record's bytes (R178) -/

/-- A drive code by its two bits (R18). -/
theorem drive_ofBits_eq (v : BitVec 2) :
    Drive.ofBits v =
      if v.getLsbD 1 then (if v.getLsbD 0 then .k else .z)
      else (if v.getLsbD 0 then .d1 else .d0) := by
  revert v
  decide

theorem drive_ofBits_bits (d : Drive) : Drive.ofBits d.bits = d := by
  cases d <;> rfl

/-- A lane's drive code by the two bits of its half. -/
theorem drivesOf_eq (bytes : List Byte) (n : Lane) :
    (drivesOf bytes)[n] =
      if (bytes.getD (n.val / 2) 0).getLsbD (4 * (n.val % 2) + 1) then
        (if (bytes.getD (n.val / 2) 0).getLsbD (4 * (n.val % 2) + 0) then .k else .z)
      else (if (bytes.getD (n.val / 2) 0).getLsbD (4 * (n.val % 2) + 0) then .d1 else .d0) := by
  simp [drivesOf, laneNibble, drive_ofBits_eq]

/-- Byte `k` of a record holds lane 2k below lane 2k+1. -/
theorem bytes_getD (v : VectorRec) (k : Fin 12) :
    v.bytes.getD k.val 0 =
      v.nibble ⟨2 * k.val + 1, by omega⟩ ++ v.nibble ⟨2 * k.val, by omega⟩ := by
  simp [VectorRec.bytes, List.getElem?_append_left]

/-- A lane's half of a record's bytes is the half written for it. -/
theorem laneNibble_bytes (v : VectorRec) (n : Lane) : laneNibble v.bytes n = v.nibble n := by
  have hk : n.val / 2 < 12 := by omega
  rw [laneNibble, bytes_getD v ⟨n.val / 2, hk⟩]
  rcases Nat.mod_two_eq_zero_or_one n.val with h | h
  · have hn : (⟨2 * (n.val / 2), by omega⟩ : Lane) = n := Fin.ext (by simp only; omega)
    rw [h, hn]
    exact BitVec.extractLsb'_append_eq_right
  · have hn : (⟨2 * (n.val / 2) + 1, by omega⟩ : Lane) = n := Fin.ext (by simp only; omega)
    rw [h, hn]
    exact BitVec.extractLsb'_append_eq_left

/-- The drive codes of a record's bytes are the record's. -/
theorem drivesOf_bytes (v : VectorRec) (n : Lane) : (drivesOf v.bytes)[n] = v.drive[n] := by
  have hhalf : (drivesOf v.bytes)[n] = Drive.ofBits ((laneNibble v.bytes n).extractLsb' 0 2) := by
    simp [drivesOf]
  rw [hhalf, laneNibble_bytes, VectorRec.nibble, BitVec.extractLsb'_append_eq_right,
    drive_ofBits_bits]

/-- Settles O15: staging by the drive codes of the payload's bytes, whatever they hold besides. -/
theorem staticDriveStagesAndApplies : Obligations.StaticDriveStagesAndApplies := by
  unfold Obligations.StaticDriveStagesAndApplies
  refine ⟨fun r s hl hs hm => ?_, fun r s hp hs hm => ?_⟩
  · obtain ⟨hlive, hlock⟩ := not_live_of_idle_or_armed hm
    have hbody : serveStageStatic r.payload s =
        accept (s.withOutput (s.output.stage (drivesOf r.payload))) [] := by
      rw [serveStageStatic, if_pos hl, stageStatic, unlessLocked_of_ne hlock,
        if_neg (by simp [hlive])]
    refine ⟨s.output.stage (drivesOf r.payload), exec_of_accept rfl rfl rfl hs hbody, rfl,
      fun v hv n => ?_, fun n => ?_, stage_applied _ _⟩
    · rw [stage_staging, hv, drivesOf_bytes]
      cases v.drive[n] <;> rfl
    · rw [stage_staging, drivesOf_eq]
      beta_reduce
      cases (r.payload.getD (n.val / 2) 0).getLsbD (4 * (n.val % 2) + 1) <;>
        cases (r.payload.getD (n.val / 2) 0).getLsbD (4 * (n.val % 2) + 0) <;> rfl
  · obtain ⟨hlive, hlock⟩ := not_live_of_idle_or_armed hm
    have hbody : serveApplyStatic (r.frame Kind.applyStatic).payload s =
        accept (s.withOutput s.output.latchedCopy) [] := by
      rw [Req.frame, hp, serveApplyStatic, applyStatic, unlessLocked_of_ne hlock,
        if_neg (by simp [hlive])]
    exact ⟨s.output.latchedCopy, exec_of_accept rfl rfl rfl hs hbody, rfl, latchedCopy_applied _⟩

/-! ## READ_LANES (R14) -/

/-- A lane's six items, byte by byte. -/
theorem laneItems_eq (s : State) (a : Assembly) (n : Lane) :
    s.laneItems a n =
      [s.output.staging[n].code, s.output.applied[n].code, (s.pinLevel n).code,
        if s.sensed a n then 1 else 0,
        if s.sensed a n ≠ (s.output.cfg n).invert then 1 else 0,
        if hasLane s.checker.quarantine n then 1 else 0] := by
  simp only [State.laneItems, bytesB, State.sense, Bool.xor_iff_ne, List.cons_append,
    List.nil_append]

/-- Settles O17: the reply's items are those of each lane, with the sensed level as R7 gives it. -/
theorem readLanesReportsEveryLane : Obligations.ReadLanesReportsEveryLane := by
  unfold Obligations.ReadLanesReportsEveryLane
  intro r a s hp hs
  refine ⟨s.sensed a, fun n => rfl, exec_of_accept rfl rfl rfl hs ?_⟩
  rw [Req.frame, hp, serveReadLanes, readLanes]
  simp only [← laneItems_eq, BankCfg.bytes, bytesB, List.flatMap_cons, List.flatMap_nil,
    List.append_nil, List.append_assoc, List.cons_append, List.nil_append]

end Sys2Proof.Machine
end

section
/-! SUPPORT. The survey's order: the lanes of a set ascend, so the first is the lowest and the next
is the lowest above; and the comparison's records reach the log one after another (R149, R152,
R154). -/

namespace Sys2Proof.Machine

open Safety

/-! ## The lanes of a set, in ascending order -/

theorem lanesOf_ascending (l : LaneSet) : (lanesOf l).Pairwise (· < ·) :=
  (List.pairwise_lt_finRange 24).filter _

/-- In an ascending list the first entry with a property is the least one with it. -/
theorem find?_eq_least {p : Lane → Bool} {m : Lane} {xs : List Lane} (ho : xs.Pairwise (· < ·))
    (hm : m ∈ xs) (hp : p m = true) (hleast : ∀ n ∈ xs, p n = true → m ≤ n) :
    xs.find? p = some m := by
  induction xs with
  | nil => cases hm
  | cons x xs ih =>
    obtain ⟨hx, hxs⟩ := List.pairwise_cons.1 ho
    by_cases hpx : p x = true
    · rw [List.find?_cons_of_pos hpx]
      have hle := hleast x (List.mem_cons_self ..) hpx
      rcases List.mem_cons.1 hm with rfl | hm
      · rfl
      · exact absurd (hx m hm) (not_lt.2 hle)
    · rw [List.find?_cons_of_neg hpx]
      rcases List.mem_cons.1 hm with rfl | hm
      · exact absurd hp hpx
      · exact ih hxs hm fun n hn => hleast n (List.mem_cons_of_mem _ hn)

/-- The first lane of a set is its lowest. -/
theorem lanesOf_eq_cons {l : LaneSet} {d first : Lane} {rest : List Lane}
    (h : lanesOf l = first :: rest) (hd : hasLane l d = true)
    (hleast : ∀ n, hasLane l n = true → d ≤ n) : first = d := by
  have hfind : (lanesOf l).find? (fun _ => true) = some d :=
    find?_eq_least (lanesOf_ascending l) ((mem_lanesOf l d).2 hd) rfl
      fun n hn _ => hleast n ((mem_lanesOf l n).1 hn)
  rw [h] at hfind
  exact Option.some.inj hfind

/-- The next participant is the lowest above. -/
theorem nextAbove_eq_some {v : Survey} {d m : Lane} (hm : hasLane v.participants m = true)
    (hlt : d < m) (hleast : ∀ n, hasLane v.participants n = true → d < n → m ≤ n) :
    v.nextAbove d = some m :=
  find?_eq_least (lanesOf_ascending _) ((mem_lanesOf _ m).2 hm) (by simpa using hlt)
    fun n hn hdn => hleast n ((mem_lanesOf _ n).1 hn) (by simpa using hdn)

/-- There is no next participant above the highest. -/
theorem nextAbove_eq_none {v : Survey} {d : Lane}
    (h : ∀ n, hasLane v.participants n = true → n ≤ d) : v.nextAbove d = none := by
  simp only [Survey.nextAbove, List.find?_eq_none, mem_lanesOf, decide_eq_true_eq, not_lt]
  exact h

/-! ## A survey's drive (R6) -/

/-- A survey step drives one lane to pin level 1 at both levels, and every other to Z. -/
theorem surveyDrive_levels (o : Output) (d n : Lane) :
    (o.surveyDrive d).staging[n] = (o.surveyDrive d).applied[n] ∧
      (o.surveyDrive d).applied[n] =
        if n = d then (if (o.cfg n).invert then .zero else .one) else .z := by
  by_cases h : n = d <;> simp [Output.surveyDrive, Output.pinHighLevel, h]

theorem surveyDrive_frame (o : Output) (d : Lane) :
    o.surveyDrive d =
      { o with staging := (o.surveyDrive d).staging, applied := (o.surveyDrive d).applied } := rfl

/-! ## The survey's start (R148) -/

/-- The participants are the lanes that a set names lane by lane. -/
theorem participants_eq {s : State} {asked lanes : LaneSet}
    (h : ∀ n, hasLane lanes n = (hasLane asked n && (s.output.cfg n).enable
      && !hasLane s.checker.quarantine n)) : s.participants asked = lanes :=
  laneSet_ext fun n => by rw [State.participants, hasLane_lanesWhere, h]

theorem timingId_none {b : Byte} (h : 3 < b.toNat) : TimingId.ofByte? b = none :=
  dif_neg (by omega)

theorem timingId_some {b : Byte} {i : TimingId} (h : b.toNat = i.val) :
    TimingId.ofByte? b = some i := by
  have hlt : b.toNat < 4 := h ▸ i.isLt
  rw [TimingId.ofByte?, dif_pos hlt]
  exact congrArg some (Fin.ext h)

/-- SURVEY in IDLE: RANGE for a set number above 3 or fewer than two participants (R148). -/
theorem survey_range {s : State} {set : Byte} {asked : LaneSet} (hm : s.engine.mode = .idle)
    (h : 3 < set.toNat ∨ laneCount (s.participants asked) < 2) :
    survey set asked s = refuse .range s := by
  rw [survey, unlessLocked_of_ne (by simp [hm]), if_neg (by simp [hm])]
  rcases h with h | h
  · rw [timingId_none h]
  · cases TimingId.ofByte? set with
    | none => rfl
    | some t =>
      match hl : lanesOf (s.participants asked) with
      | [] => simp only
      | [_] => simp only
      | _ :: _ :: _ => simp [laneCount, hl] at h

/-- SURVEY in IDLE with two participants or more: a survey from the lowest (R148, R149). -/
theorem survey_accept {s : State} {set : Byte} {asked : LaneSet} {i : TimingId} {d : Lane}
    (hm : s.engine.mode = .idle) (hi : set.toNat = i.val)
    (h2 : 2 ≤ laneCount (s.participants asked)) (hd : hasLane (s.participants asked) d = true)
    (hleast : ∀ n, hasLane (s.participants asked) n = true → d ≤ n) :
    survey set asked s =
      accept (startSurvey (s.participants asked) i d s)
        (bytesL (s.participants asked) ++ byte (laneCount (s.participants asked))) := by
  rw [survey, unlessLocked_of_ne (by simp [hm]), if_neg (by simp [hm]), timingId_some hi]
  match hl : lanesOf (s.participants asked) with
  | [] => simp [laneCount, hl] at h2
  | [_] => simp [laneCount, hl] at h2
  | first :: second :: rest =>
    obtain rfl := lanesOf_eq_cons hl hd hleast
    simp only [laneCount, hl]

/-! ## The comparison's records (R134, R154) -/

/-- Records logged one after another: the log takes as many as it holds, and the overflow flag says
whether one was discarded. -/
theorem foldl_log (rs : List FailRec) (c : Checker) (h : c.failLog.length ≤ Config.logLimit) :
    rs.foldl Checker.log c =
      { c with
        failLog := (c.failLog ++ rs).take Config.logLimit
        logOverflow :=
          c.logOverflow || decide (Config.logLimit < c.failLog.length + rs.length) } := by
  induction rs generalizing c with
  | nil => simp [List.take_of_length_le h, Nat.not_lt.2 h]
  | cons r rs ih =>
    rw [List.foldl_cons]
    by_cases hlt : c.failLog.length < Config.logLimit
    · have hlog : c.log r = { c with failLog := c.failLog ++ [r] } := if_pos hlt
      rw [hlog, ih _ (by simpa using hlt)]
      simp [Nat.add_assoc, Nat.add_comm 1]
    · have hfull : c.failLog.length = Config.logLimit := by omega
      have hlog : c.log r = { c with logOverflow := true } := if_neg hlt
      rw [hlog, ih { c with logOverflow := true } h]
      simp [hfull]

/-- Records handed to the checker: the log takes them, and the continuity-fail flag says whether
there was one. -/
theorem foldl_handRecord (rs : List FailRec) (s : State) :
    rs.foldl handRecord s =
      { s with
        checker := rs.foldl Checker.log s.checker
        engine :=
          { s.engine with continuityFail := s.engine.continuityFail || decide (rs ≠ []) } } := by
  induction rs generalizing s with
  | nil => simp
  | cons r rs ih => simp [ih, handRecord]

/-- The end of a survey's last step: the comparison's records in the log, the map complete, and the
run end (R152 step 3). -/
theorem surveyComplete_eq {s : State} (h : LogLaw s) :
    surveyComplete s =
      runEnd .complete
        { s with
          survey := { s.survey with mapComplete := true }
          checker :=
            { s.checker with
              failLog := (s.checker.failLog ++ s.survey.comparison).take Config.logLimit
              logOverflow := s.checker.logOverflow || decide
                (Config.logLimit < s.checker.failLog.length + s.survey.comparison.length) }
          engine :=
            { s.engine with
              continuityFail :=
                s.engine.continuityFail || decide (s.survey.comparison ≠ []) } } := by
  rw [← foldl_log _ _ h, surveyComplete, compareMaps, foldl_handRecord]
  rfl

/-! ## SURVEY_STEP_END (R152) -/

theorem execSurveyStepEnd_due {s : State} (h : StepEndDue s .survey) :
    exec .surveyStepEnd s = .next (surveyStepEnd s) :=
  congrArg Host.Outcome.next (if_pos ((stepEnds_iff_stepEndDue s .survey).2 h))

theorem execSurveyStepEnd_not_due {s : State} (h : ¬ StepEndDue s .survey) :
    exec .surveyStepEnd s = .next s :=
  congrArg Host.Outcome.next (if_neg (mt (stepEnds_iff_stepEndDue s .survey).1 h))

/-- A survey step's end with a pending stop is the run end (R152 step 1). -/
theorem surveyStepEnd_pendingStop {s : State} {c : StopCause}
    (h : s.engine.pendingStop.cause? = some c) : surveyStepEnd s = runEnd c (countStep s) := by
  have h' : (countStep s).engine.pendingStop.cause? = some c := h
  simp only [surveyStepEnd, h']

/-- A survey step's end with a participant above starts that participant's step (R152 step 2). -/
theorem surveyStepEnd_next {s : State} {m : Lane} (hp : s.engine.pendingStop.cause? = none)
    (hm : s.survey.position.bind s.survey.nextAbove = some m) :
    surveyStepEnd s = surveyStepStart m (countStep s) := by
  have hp' : (countStep s).engine.pendingStop.cause? = none := hp
  have hm' : (countStep s).survey.position.bind (countStep s).survey.nextAbove = some m := hm
  simp only [surveyStepEnd, hp', hm']

/-- A survey's last step's end is the comparison and COMPLETE (R152 step 3). -/
theorem surveyStepEnd_last {s : State} (hp : s.engine.pendingStop.cause? = none)
    (hm : s.survey.position.bind s.survey.nextAbove = none) :
    surveyStepEnd s = surveyComplete (countStep s) := by
  have hp' : (countStep s).engine.pendingStop.cause? = none := hp
  have hm' : (countStep s).survey.position.bind (countStep s).survey.nextAbove = none := hm
  simp only [surveyStepEnd, hp', hm']

/-- Settles O49: the participants ascend, so the survey begins at the lowest, moves to the lowest
above, and ends above the highest. -/
theorem surveyStepsThroughItsParticipants : Obligations.SurveyStepsThroughItsParticipants := by
  unfold Obligations.SurveyStepsThroughItsParticipants
  intro drives
  refine ⟨fun r s set l2 l1 l0 lanes hp hs hm hl => ?_, fun s => execSurveyStepEnd_not_due,
    fun s d hdue hd => ?_⟩
  · have hbody : serveSurvey (r.frame Kind.survey).payload s =
        survey set (laneSet3 l2 l1 l0) s := by
      rw [Req.frame, hp, serveSurvey]
    obtain rfl := participants_eq hl
    refine ⟨fun h => exec_of_refuse rfl rfl rfl hs (hbody.trans (survey_range hm h)),
      fun i d hi h2 hd hleast => ?_⟩
    refine ⟨startSurvey _ i d s,
      exec_of_accept rfl rfl rfl hs (hbody.trans (survey_accept hm hi h2 hd hleast)),
      ⟨surveyDrive_frame _ _, surveyDrive_levels _ _⟩, ?_⟩
    cases hc : s.engine.options.clearAtStart <;>
      simp only [startSurvey, surveyStepStart, Checker.startSurvey, Engine.startSurvey, hc] <;> rfl
  · rw [execSurveyStepEnd_due hdue]
    have hcause : ∀ p, s.engine.pendingStop = p → s.engine.pendingStop.cause? = p.cause? :=
      fun _ h => congrArg _ h
    refine ⟨fun h => ?_, fun h => ?_, fun h => ⟨fun m hm hlt hleast => ?_, fun hlast hlog => ?_⟩⟩
    · rw [surveyStepEnd_pendingStop (hcause _ h)]
      rfl
    · rw [surveyStepEnd_pendingStop (hcause _ h)]
      rfl
    · rw [surveyStepEnd_next (hcause _ h) (by rw [hd]; exact nextAbove_eq_some hm hlt hleast)]
      exact ⟨_, rfl, ⟨surveyDrive_frame _ _, surveyDrive_levels _ _⟩, rfl⟩
    · rw [surveyStepEnd_last (hcause _ h) (by rw [hd]; exact nextAbove_eq_none hlast),
        surveyComplete_eq (s := countStep s) hlog]
      rfl

end Sys2Proof.Machine
end

section
/-! SUPPORT. The full-reset values read block by block, the end of start-up, and the laws of the
device at reset (R176). -/

namespace Sys2Proof.Machine

open Safety

/-! ## A full reset (R176) -/

/-- At reset every record is free, in one run (R21). -/
theorem reset_figures : Store.reset.freeCount = 2048 ∧ Store.reset.largestFree = 2048 := by
  decide +kernel

theorem reset_sets (i : TimingId) : Timing.reset.sets[i] = ⟨1, 50, 25, 1000, 500, false⟩ := by
  simp [Timing.reset]

theorem reset_directory (p : PatternId) : Store.reset.directory[p] = ⟨.undefined, 0⟩ := by
  simp [Store.reset]

theorem empty_slots (i : SlotIndex) : Rotation.empty.slots[i] = ⟨0, 0, .forward, 0⟩ := by
  simp [Rotation.empty, Slot.zeroRecord]

theorem reset_snapshots (n : SnapshotId) : Engine.reset.snapshots[n] = Snapshot.none := by
  simp [Engine.reset]

/-- Every bank is LATCHED, not inverted and disabled at reset (R17). -/
theorem reset_cfg (n : Lane) : Output.reset.cfg n = ⟨.latched, false, false⟩ := by
  unfold Output.cfg
  cases bankOf n <;> rfl

theorem reset_levels (n : Lane) : Output.reset.staging[n] = .z ∧ Output.reset.applied[n] = .z := by
  simp [Output.reset]

theorem reset_counts (n : Lane) :
    Checker.reset.mismatchCounts[n] = 0 ∧ Checker.reset.faultCounts[n] = 0 := by
  simp [Checker.reset]

theorem reset_maps (n : Lane) :
    Survey.reset.netMap[n] = none ∧ Survey.reset.reference[n] = none := by
  simp [Survey.reset]

/-! ## The end of start-up (R176) -/

/-- READY has its entry in an empty outbound queue, whatever the mask holds (R173). -/
theorem notice_ready {l : Link} (hr : l.requests = []) (ho : l.outbound = []) (p : List Byte) :
    l.notice .ready p = { l with outbound := [NoticeKind.ready.frame p] } := by
  simp [Link.notice, Link.maskAdmits, Link.notices, Link.freeEntries, Link.reserved, Link.place, hr,
    ho, Config.noticeCap, Config.outboundEntries]

/-- Settles O4: the reset state's blocks one by one, and READY's place in the empty queue. -/
theorem fullResetAndStartUp : Obligations.FullResetAndStartUp := by
  unfold Obligations.FullResetAndStartUp
  refine ⟨fun straps s => ⟨fullReset straps s, rfl, fun h => ?_, fun h => ?_, rfl, rfl, rfl,
    reset_directory, reset_figures.1, reset_figures.2, reset_sets, rfl, rfl, rfl, rfl, rfl, rfl,
    fun i => ⟨empty_slots i, empty_slots i⟩, rfl, reset_snapshots,
    fun n => ⟨(reset_levels n).1, (reset_levels n).2, reset_cfg n, ?_⟩, rfl, reset_counts, rfl, rfl,
    rfl, rfl, rfl, rfl, rfl, rfl, rfl, rfl, rfl, rfl, rfl, reset_maps, rfl⟩,
    fun a b s => ⟨fun ho hlaw => ?_, fun ho => ?_⟩⟩
  · exact congrArg Host.Outcome.next (if_neg (by simp [h]))
  · exact congrArg Host.Outcome.next (if_pos h)
  · exact pinLevel_released (.inl (congrArg BankCfg.enable (reset_cfg n)))
  · obtain ⟨hreq, hout, -⟩ := hlaw ho
    have hrow : exec (.startUpEnd a b) s = .next (finishStartUp a b s) :=
      congrArg Host.Outcome.next (if_neg (by simp [ho]))
    rw [hrow, finishStartUp, notice_ready (l := { s.link with power := .operating }) hreq hout]
    rfl
  · exact congrArg Host.Outcome.next (if_pos ho)

/-! ## The laws at reset -/

/-- At reset every pattern is UNDEFINED (R39). -/
theorem reset_content (p : PatternId) : Store.reset.content p = .undefined := by
  rw [Store.content, reset_directory]

theorem reset_extent (p : PatternId) : Store.reset.extent? p = none := by
  rw [Store.extent?, reset_content]

/-- The timing set of a full reset is in range (R55). -/
theorem reset_setInRange : SetInRange ⟨1, 50, 25, 1000, 500, false⟩ := by decide

/-- An EMPTY snapshot is formed, with its count and its options in range (R116). -/
theorem none_snapshot_lawful :
    SnapshotFormed Snapshot.none ∧ Snapshot.none.failingSteps ≤ Config.maxFailing ∧
      OptionsInRange Snapshot.none.options := by
  decide

/-- At reset no lane is quarantined, and the limit is 8 (R146). -/
theorem reset_quarantineLaw : QuarantineLaw State.reset := by
  have hcount : State.reset.checker.quarantinedCount = 0 := laneCount_zero
  exact ⟨by decide, fun _ => hcount ▸ by decide⟩

/-- At reset every count is 0 (R146, R116). -/
theorem reset_countLaw : CountLaw State.reset := by
  refine ⟨fun n => ?_, Nat.zero_le _, fun n => (reset_snapshots n).symm ▸ none_snapshot_lawful.2.1⟩
  obtain ⟨hm, hf⟩ : State.reset.checker.mismatchCounts[n] = 0 ∧
      State.reset.checker.faultCounts[n] = 0 := reset_counts n
  simp [hm, hf]

/-- At reset the slots are zero records and every setting has its default (R72, R75, R146). -/
theorem reset_rangeLaw : RangeLaw State.reset := by
  refine ⟨fun i => ?_, nofun, nofun, nofun, nofun, by decide,
    fun n => (reset_snapshots n).symm ▸ none_snapshot_lawful.2.2, by decide⟩
  have hslot : Rotation.empty.slots[i].dwell = 0 := congrArg Slot.dwell (empty_slots i)
  exact ⟨hslot.trans_le (Nat.zero_le _), hslot.trans_le (Nat.zero_le _)⟩

/-- Settles O55: law by law, from the reset values of the block that it speaks of. -/
theorem lawfulAtReset : Obligations.LawfulAtReset where
  storeCanonical := Memory.wf_nil
  directory p := congrArg entryInRange (reset_content p)
  extentsApart p q _ e he := by cases (reset_extent p).symm.trans he
  pack := nofun
  timing := ⟨fun i => (reset_sets i).symm ▸ reset_setInRange, nofun⟩
  pace := by decide
  follow n _ := (reset_levels n).2.trans (reset_levels n).1.symm
  swap := nofun
  survey := by decide
  stack := ⟨by decide, rfl, fun n => (reset_snapshots n).symm ▸ none_snapshot_lawful.1⟩
  quarantine := reset_quarantineLaw
  log := Nat.zero_le _
  counts := reset_countLaw
  queue := by decide
  startUp _ := ⟨rfl, rfl, rfl⟩
  mask := rfl
  framer := rfl
  references := ⟨.inl rfl, by decide, nofun, Nat.zero_le _, nofun, nofun, nofun⟩
  positions := nofun
  ranges := reset_rangeLaw

end Sys2Proof.Machine
end

section
/-! SUPPORT. The vector store's form, the FOLLOW banks' levels and the timing ranges, each a law of
one block: what every operation on the block keeps, then what every operation of the machine keeps. -/

namespace Sys2Proof.Machine

open Safety

/-! ## FOLLOW banks (R3) -/

/-- In a FOLLOW bank staging and applied level are equal: `FollowLaw` of the output stage alone. -/
def Output.Follows (o : Output) : Prop :=
  ∀ n : Lane, (o.cfg n).mode = .follow → o.applied[n] = o.staging[n]

theorem followLaw_iff (s : State) : FollowLaw s ↔ s.output.Follows := Iff.rfl

/-- Levels that are equal on every lane are so in FOLLOW banks. -/
theorem follows_of_levels {o : Output} (h : o.applied = o.staging) : o.Follows :=
  fun n _ => congrArg (fun v : Lanes Level => v[n]) h

theorem applyIdle_follows (o : Output) : o.applyIdle.Follows := by
  unfold Output.applyIdle
  split <;> exact follows_of_levels rfl

theorem surveyDrive_follows (o : Output) (d : Lane) : (o.surveyDrive d).Follows :=
  fun n _ => (surveyDrive_levels o d n).1.symm

theorem stage_follows (o : Output) (d : Lanes Drive) : (o.stage d).Follows := by
  intro n h
  have hcfg : (o.stage d).cfg n = o.cfg n := cfg_of_levels o _ _ n
  rw [stage_applied, if_pos (hcfg ▸ h)]

theorem latchedCopy_cfg (o : Output) (n : Lane) : o.latchedCopy.cfg n = o.cfg n := by
  unfold Output.latchedCopy Output.cfg
  cases bankOf n <;> simp only [Output.bank]

theorem latchedCopy_staging (o : Output) : o.latchedCopy.staging = o.staging := by
  simp only [Output.latchedCopy]

theorem latchedCopy_follows {o : Output} (ho : o.Follows) : o.latchedCopy.Follows := by
  intro n h
  have hmode : (o.cfg n).mode = .follow := by rwa [latchedCopy_cfg] at h
  rw [latchedCopy_applied, if_neg (by simp [hmode]), latchedCopy_staging]
  exact ho n hmode

/-- A bank that SET_BANK brings to FOLLOW has its levels copied, unless it followed before (R4). -/
theorem setBank_follows {o : Output} (ho : o.Follows) (w : Bank) (c : BankCfg) :
    (o.setBank w c).Follows := by
  intro n h
  simp only [Output.cfg, setBank_bank] at h
  simp only [setBank_applied, setBank_staging]
  by_cases hn : bankOf n = w
  · rw [hn, putBank_bank_same] at h
    cases hold : (o.bank w).mode with
    | latched => rw [if_pos ⟨hn, rfl, h⟩]
    | follow =>
      rw [if_neg (by simp)]
      exact ho n (by rw [Output.cfg, hn, hold])
  · rw [putBank_bank_other _ _ hn] at h
    rw [if_neg (by simp [hn])]
    exact ho n h

/-! ## The timing ranges (R40, R47) -/

/-- The values of a step in progress lie in their ranges, its count in 0..P−1 and the time in the
count below the prescaled tick. -/
def PacerStep.InRange (k : PacerStep) : Prop :=
  k.prescale ∈ Config.prescales ∧ 1 ≤ k.strobe ∧ k.strobe < k.period ∧
    k.period ≤ Config.maxPeriodTicks ∧ k.count < k.period ∧ k.spent < k.prescale

/-- Every timing set and the step in progress are in range: `TimingLaw` of the timing unit alone. -/
def Timing.InRange (t : Timing) : Prop :=
  (∀ i : TimingId, SetInRange t.sets[i]) ∧ ∀ k ∈ t.pacer, k.InRange

theorem timingLaw_iff (s : State) : TimingLaw s ↔ s.timing.InRange := Iff.rfl

theorem prescale_pos {p : Nat} (h : p ∈ Config.prescales) : 0 < p := by
  revert p
  decide

/-- A step that begins with a timing set's values is in range. -/
theorem pacerStep_of_set {t : TimingSet} (h : SetInRange t) :
    PacerStep.InRange ⟨t.prescale, t.period, t.strobe, 0, 0⟩ := by
  obtain ⟨hp, _, hmax, hs, hlt⟩ := h
  exact ⟨hp, hs, hlt, hmax, Nat.lt_of_le_of_lt (Nat.zero_le _) hlt, prescale_pos hp⟩

theorem atStrobe_inRange {k : PacerStep} (h : k.InRange) : k.atStrobe.InRange := by
  obtain ⟨hp, hs, hlt, hmax, _, _⟩ := h
  exact ⟨hp, hs, hlt, hmax, hlt, prescale_pos hp⟩

theorem pacerStep_tick_inRange {k : PacerStep} (h : k.InRange) : k.tick.InRange := by
  obtain ⟨hp, hs, hlt, hmax, hcount, hspent⟩ := h
  obtain ⟨ep, eP, es⟩ := k.tick_values
  obtain ⟨hc, ht⟩ := k.tick_inRange hcount hspent
  exact ⟨ep ▸ hp, es ▸ hs, by rw [es, eP]; exact hlt, eP ▸ hmax, eP ▸ hc, ep ▸ ht⟩

theorem stopPacer_inRange {t : Timing} (h : t.InRange) : t.stopPacer.InRange := ⟨h.1, nofun⟩

theorem stopWait_inRange {t : Timing} (h : t.InRange) : t.stopWait.InRange := h

theorem loadWait_inRange {t : Timing} (h : t.InRange) (ms : Nat) : (t.loadWait ms).InRange := h

theorem startPacer_inRange {t : Timing} (h : t.InRange) (i : TimingId) :
    (t.startPacer i).InRange := by
  refine ⟨h.1, ?_⟩
  rintro k ⟨⟩
  exact pacerStep_of_set (h.1 i)

/-- An operation on the step in progress that keeps its ranges keeps the timing unit's. -/
theorem mapPacer_inRange {t : Timing} {g : PacerStep → PacerStep}
    (hg : ∀ k : PacerStep, k.InRange → (g k).InRange) (h : t.InRange) :
    ∀ k ∈ t.pacer.map g, k.InRange := by
  intro k hk
  obtain ⟨j, hj, rfl⟩ := Option.map_eq_some_iff.1 hk
  exact hg j (h.2 j hj)

theorem toStrobe_inRange {t : Timing} (h : t.InRange) : t.toStrobe.InRange :=
  ⟨h.1, mapPacer_inRange (fun _ => atStrobe_inRange) h⟩

theorem timing_tick_inRange {t : Timing} (h : t.InRange) (m : EngineState) :
    (t.tick m).InRange := by
  refine ⟨h.1, ?_⟩
  simp only [Timing.tick]
  split
  · exact mapPacer_inRange (fun _ => pacerStep_tick_inRange) h
  · exact h.2

/-- What a conversion answers is in range (R41 checks 4 and 5). -/
theorem convertTiming_inRange {m : Rounding} {periodNs strobeNs : Nat} {t : TimingSet}
    (h : convertTiming m periodNs strobeNs = some t) : SetInRange t := by
  unfold convertTiming at h
  split at h
  · cases h
  next p hp =>
    dsimp only at h
    split at h
    · cases h
    next hmin =>
      split at h
      · cases h
      next hstrobe =>
        cases h
        simp only [Bool.or_eq_true, decide_eq_true_eq, not_or] at hstrobe
        have hmax : convertNs m periodNs p ≤ Config.maxPeriodTicks := by
          simpa using List.find?_some hp
        exact ⟨List.mem_of_find?_eq_some hp, by dsimp only; omega, hmax, by dsimp only; omega,
          by dsimp only; omega⟩

/-- A timing set written in range. -/
theorem setSet_inRange {t : Timing} (h : t.InRange) (i : TimingId) {x : TimingSet}
    (hx : SetInRange x) : Timing.InRange { t with sets := t.sets.set i.val x } := by
  refine ⟨fun j => ?_, h.2⟩
  by_cases hij : i.val = j.val
  · simpa [Vector.getElem_set, hij] using hx
  · simpa [Vector.getElem_set, hij] using h.1 j

/-! ## The three laws together -/

/-- From `s` to `t` the vector store's form, the FOLLOW banks' levels and the timing ranges are
kept. -/
structure KeepsForm (s t : State) : Prop where
  vectors : s.store.vectors.wf → t.store.vectors.wf
  lanes   : s.output.Follows → t.output.Follows
  timing  : s.timing.InRange → t.timing.InRange

theorem KeepsForm.trans {s t u : State} (h : KeepsForm s t) (k : KeepsForm t u) : KeepsForm s u :=
  ⟨k.vectors ∘ h.vectors, k.lanes ∘ h.lanes, k.timing ∘ h.timing⟩

/-- What leaves the vectors, the lanes and the timing unit alone keeps them. -/
theorem KeepsForm.of_eq {s t : State} (hv : t.store.vectors = s.store.vectors)
    (ho : t.output = s.output) (ht : t.timing = s.timing) : KeepsForm s t :=
  ⟨fun h => hv ▸ h, fun h => ho ▸ h, fun h => ht ▸ h⟩

theorem KeepsForm.refl (s : State) : KeepsForm s s := .of_eq rfl rfl rfl

/-! ## The run -/

theorem swapIfWaiting_keepsForm (m : SwapManner) (s : State) : KeepsForm s (swapIfWaiting m s) :=
  .of_eq (by rw [swapIfWaiting_store]) (by simp) (by simp)

theorem runEnd_keepsForm (c : StopCause) (s : State) : KeepsForm s (runEnd c s) where
  vectors h := by rwa [runEnd_store]
  lanes h := by
    rw [runEnd_output]
    split
    · exact h
    · exact applyIdle_follows _
  timing h := by
    rw [runEnd_timing]
    exact stopWait_inRange (stopPacer_inRange h)

theorem enterLockout_keepsForm (s : State) : KeepsForm s (enterLockout s) :=
  (runEnd_keepsForm .lockout s).trans (.of_eq rfl rfl rfl)

theorem beginStep_keepsForm (f : RunFrame) (v : VectorRec) (s : State) :
    KeepsForm s (beginStep f v s) where
  vectors h := by rwa [beginStep_store]
  lanes h := by
    rw [beginStep_output]
    exact latchedCopy_follows h
  timing h := by
    rw [beginStep_timing]
    exact startPacer_inRange (stopWait_inRange h) _

theorem stageStep_keepsForm (v : VectorRec) (s : State) : KeepsForm s (stageStep v s) :=
  ⟨id, fun _ => stage_follows _ _, id⟩

theorem enterWaiting_keepsForm (s : State) : KeepsForm s (enterWaiting s) :=
  ⟨id, id, fun h => loadWait_inRange (stopPacer_inRange h) _⟩

theorem consumeRelease_keepsForm (v : VectorRec) (s : State) : KeepsForm s (consumeRelease v s) :=
  .of_eq (by rw [consumeRelease_store]) (by simp) (by simp)

theorem stepStart_keepsForm (s : State) : KeepsForm s (stepStart s) := by
  unfold stepStart
  split
  · exact .refl s
  next f _ =>
    dsimp only
    split
    · exact (stageStep_keepsForm _ s).trans (enterWaiting_keepsForm _)
    · exact ((stageStep_keepsForm _ s).trans (consumeRelease_keepsForm _ _)).trans
        (beginStep_keepsForm f _ _)

theorem startWaitingStep_keepsForm (s : State) : KeepsForm s (startWaitingStep s) := by
  unfold startWaitingStep
  split
  · exact (consumeRelease_keepsForm _ s).trans (beginStep_keepsForm _ _ _)
  · exact .refl s

/-- A step start after a change that leaves the three blocks alone. -/
theorem stepStart_keepsForm_of_eq {s t : State} (hv : t.store.vectors = s.store.vectors)
    (ho : t.output = s.output) (ht : t.timing = s.timing) : KeepsForm s (stepStart t) :=
  (KeepsForm.of_eq hv ho ht).trans (stepStart_keepsForm t)

theorem settle_keepsForm (m : Moved) (s : State) : KeepsForm s (settle m s) := by
  unfold settle
  split
  · exact .of_eq rfl rfl rfl
  · dsimp only
    split
    · exact (swapIfWaiting_keepsForm .wrap s).trans (runEnd_keepsForm .complete _)
    · exact (swapIfWaiting_keepsForm .wrap s).trans (.of_eq rfl rfl rfl)

theorem goOn_keepsForm (s : State) : KeepsForm s (goOn s) := by
  unfold goOn
  split
  · exact stepStart_keepsForm s
  · exact .refl s

/-- A move and what follows it, after a change that keeps the three laws. -/
theorem goOn_settle_keepsForm (m : Moved) {s t : State} (h : KeepsForm s t) :
    KeepsForm s (goOn (settle m t)) :=
  (h.trans (settle_keepsForm m t)).trans (goOn_keepsForm _)

theorem takePending_keepsForm (x : Splice) (s : State) : KeepsForm s (takePending x s) := by
  unfold takePending
  split
  · exact stepStart_keepsForm_of_eq rfl rfl rfl
  · exact .refl s

theorem countStep_keepsForm (s : State) : KeepsForm s (countStep s) := ⟨id, id, stopPacer_inRange⟩

theorem endMove_keepsForm (f : RunFrame) (s : State) : KeepsForm s (endMove f s) := by
  unfold endMove
  split
  · exact (settle_keepsForm _ s).trans (takePending_keepsForm _ _)
  · split
    · exact goOn_settle_keepsForm _ (.of_eq rfl rfl rfl)
    · exact goOn_settle_keepsForm _ (.refl s)

theorem rotationStepEnd_keepsForm (s : State) : KeepsForm s (rotationStepEnd s) := by
  refine (countStep_keepsForm s).trans ?_
  unfold rotationStepEnd
  dsimp only
  split
  · exact runEnd_keepsForm _ _
  · split
    · exact endMove_keepsForm _ _
    · exact .refl _

theorem acceptSplice_keepsForm (x : Splice) (s : State) : KeepsForm s (acceptSplice x s) := by
  unfold acceptSplice
  split
  · split
    · exact KeepsForm.trans (t := s.withTiming s.timing.stopWait) ⟨id, id, stopWait_inRange⟩
        (stepStart_keepsForm_of_eq rfl rfl rfl)
    · exact ⟨id, id, stopWait_inRange⟩
  · exact .of_eq rfl rfl rfl

theorem stopped_keepsForm (c : StopCause) (s : State) : KeepsForm s (stopped c s) := by
  unfold stopped
  split
  · exact .of_eq rfl rfl rfl
  · exact runEnd_keepsForm c s

theorem released_keepsForm (s : State) : KeepsForm s (released s) := by
  unfold released
  split
  · exact startWaitingStep_keepsForm s
  · exact .of_eq rfl rfl rfl

theorem continueFrom_keepsForm (o : HeldOrigin) (s : State) : KeepsForm s (continueFrom o s) := by
  cases o with
  | running => exact .of_eq rfl rfl rfl
  | waiting =>
    unfold continueFrom
    dsimp only
    split
    · exact startWaitingStep_keepsForm s
    · exact .of_eq rfl rfl rfl
  | boundary => exact stepStart_keepsForm_of_eq rfl rfl rfl

theorem engineReset_keepsForm (s : State) : KeepsForm s (engineReset s) := by
  have hreset : ∀ t, KeepsForm t (resetBlocks t) := fun t =>
    ⟨id, fun _ => follows_of_levels rfl, fun h => stopWait_inRange (stopPacer_inRange h)⟩
  unfold engineReset
  split
  · exact (runEnd_keepsForm _ s).trans (hreset _)
  · exact hreset s

/-! ## The strobe and the survey -/

theorem failingStep_keepsForm (m f obs : LaneSet) (s : State) :
    KeepsForm s (failingStep m f obs s) :=
  .of_eq (by rw [failingStep_store]) (by simp) (by simp)

theorem quarantineAll_keepsForm (obs : LaneSet) (lanes : List Lane) (s : State) :
    KeepsForm s (quarantineAll obs lanes s) := by
  have hfold : KeepsForm s (lanes.foldl (quarantineLane obs) s) :=
    .of_eq (by rw [quarantineFold_keeps State.store obs (fun _ _ => rfl)])
      (quarantineFold_keeps State.output obs (fun _ _ => rfl) lanes s)
      (quarantineFold_keeps State.timing obs (fun _ _ => rfl) lanes s)
  simp only [quarantineAll]
  split
  · exact hfold.trans (enterLockout_keepsForm _)
  · exact hfold

theorem judge_keepsForm (m f obs : LaneSet) (s : State) : KeepsForm s (judge m f obs s) := by
  have hcount : KeepsForm s (countStrobe m f s) :=
    .of_eq (by rw [countStrobe, State.withChecker_store])
      (by rw [countStrobe, State.withChecker_output]) (by rw [countStrobe, State.withChecker_timing])
  simp only [judge]
  refine KeepsForm.trans ?_ (quarantineAll_keepsForm _ _ _)
  split
  · exact hcount
  · exact hcount.trans (failingStep_keepsForm _ _ _ _)

theorem reachStrobe_keepsForm (s : State) : KeepsForm s (reachStrobe s) :=
  ⟨id, id, toStrobe_inRange⟩

theorem writeEntry_keepsForm (a : Assembly) (s : State) : KeepsForm s (writeEntry a s) := by
  unfold writeEntry
  split
  · exact .of_eq rfl rfl rfl
  · exact .refl s

theorem surveyStepStart_keepsForm (n : Lane) (s : State) : KeepsForm s (surveyStepStart n s) :=
  ⟨id, fun _ => surveyDrive_follows _ _, fun h => startPacer_inRange h _⟩

theorem surveyComplete_keepsForm (s : State) : KeepsForm s (surveyComplete s) := by
  unfold surveyComplete compareMaps
  rw [foldl_handRecord]
  dsimp only
  refine KeepsForm.trans ?_ (runEnd_keepsForm .complete _)
  exact .of_eq rfl rfl rfl

theorem surveyStepEnd_keepsForm (s : State) : KeepsForm s (surveyStepEnd s) := by
  refine (countStep_keepsForm s).trans ?_
  unfold surveyStepEnd
  dsimp only
  split
  · exact runEnd_keepsForm _ _
  · split
    · exact surveyStepStart_keepsForm _ _
    · exact surveyComplete_keepsForm _

end Sys2Proof.Machine
end

section
/-! SUPPORT. Every row keeps the vector store's form, the FOLLOW banks' levels and the timing ranges,
and so does every step. -/

namespace Sys2Proof.Machine

open Safety

/-! ## One block replaced -/

theorem withOutput_keepsForm {s : State} {o : Output} (h : s.output.Follows → o.Follows) :
    KeepsForm s (s.withOutput o) := ⟨id, h, id⟩

theorem withTiming_keepsForm {s : State} {t : Timing} (h : s.timing.InRange → t.InRange) :
    KeepsForm s (s.withTiming t) := ⟨id, id, h⟩

theorem withStore_keepsForm {s : State} {t : Store} (h : s.store.vectors.wf → t.vectors.wf) :
    KeepsForm s (s.withStore t) := ⟨h, id, id⟩

theorem withLink_keepsForm (s : State) (l : Link) : KeepsForm s (s.withLink l) := .of_eq rfl rfl rfl

theorem withEngine_keepsForm (s : State) (e : Engine) : KeepsForm s (s.withEngine e) :=
  .of_eq rfl rfl rfl

theorem withChecker_keepsForm (s : State) (c : Checker) : KeepsForm s (s.withChecker c) :=
  .of_eq rfl rfl rfl

theorem withSurvey_keepsForm (s : State) (v : Survey) : KeepsForm s (s.withSurvey v) :=
  .of_eq rfl rfl rfl

theorem withTrigger_keepsForm (s : State) (t : Trigger) : KeepsForm s (s.withTrigger t) :=
  .of_eq rfl rfl rfl

/-! ## Requests that change one of the three blocks -/

/-- The check of LOCKOUT keeps what the request behind it keeps. -/
theorem unlessLocked_keepsForm {s : State} {k : Served} (h : KeepsForm s k.1) :
    KeepsForm s (unlessLocked s k).1 := by
  unfold unlessLocked
  split
  · exact .refl s
  · exact h

/-- So does a check that refuses. -/
theorem guard_keepsForm {c : Prop} [Decidable c] {s : State} {st : Status} {k : Served}
    (h : KeepsForm s k.1) : KeepsForm s (if c then refuse st s else k).1 := by
  split
  · exact .refl s
  · exact h

theorem serveResetEngine_keepsForm (p : List Byte) (s : State) :
    KeepsForm s (serveResetEngine p s).1 := by
  unfold serveResetEngine
  split
  · exact engineReset_keepsForm _
  · exact .refl _

theorem serveSetBank_keepsForm (p : List Byte) (s : State) :
    KeepsForm s (serveSetBank p s).1 := by
  unfold serveSetBank setBank
  split
  · refine unlessLocked_keepsForm (guard_keepsForm ?_)
    split
    · exact withOutput_keepsForm fun h => setBank_follows h _ _
    · exact .refl _
  · exact .refl _

theorem serveSetIdlePolicy_keepsForm (p : List Byte) (s : State) :
    KeepsForm s (serveSetIdlePolicy p s).1 := by
  unfold serveSetIdlePolicy setIdlePolicy
  split
  · refine unlessLocked_keepsForm ?_
    split
    · exact withOutput_keepsForm id
    · exact .refl _
  · exact .refl _

theorem serveStageStatic_keepsForm (p : List Byte) (s : State) :
    KeepsForm s (serveStageStatic p s).1 := by
  unfold serveStageStatic stageStatic
  split
  · exact unlessLocked_keepsForm
      (guard_keepsForm (withOutput_keepsForm fun _ => stage_follows _ _))
  · exact .refl _

theorem serveApplyStatic_keepsForm (p : List Byte) (s : State) :
    KeepsForm s (serveApplyStatic p s).1 := by
  unfold serveApplyStatic applyStatic
  split
  · exact unlessLocked_keepsForm (guard_keepsForm (withOutput_keepsForm latchedCopy_follows))
  · exact .refl _

theorem serveDefinePattern_keepsForm (p : List Byte) (s : State) :
    KeepsForm s (serveDefinePattern p s).1 := by
  unfold serveDefinePattern definePattern
  split
  · refine unlessLocked_keepsForm ?_
    split
    · exact .refl _
    refine guard_keepsForm (guard_keepsForm ?_)
    split
    · exact .refl _
    · exact withStore_keepsForm fun h => Memory.clear_wf h _ _
  · exact .refl _

theorem writeVectors_keepsForm (id : Byte) (start count : Nat) (records : List (List Byte))
    (s : State) : KeepsForm s (writeVectors id start count records s).1 := by
  unfold writeVectors
  refine unlessLocked_keepsForm ?_
  split
  · exact .refl _
  refine guard_keepsForm ?_
  split
  · exact .refl _
  · exact .refl _
  refine guard_keepsForm ?_
  split
  · exact .refl _
  · exact guard_keepsForm (withStore_keepsForm fun h => Memory.writeAll_wf h _ _)

theorem serveWriteVectors_keepsForm (p : List Byte) (s : State) :
    KeepsForm s (serveWriteVectors p s).1 := by
  unfold serveWriteVectors
  split
  · split
    · exact writeVectors_keepsForm _ _ _ _ s
    · exact .refl _
  · exact .refl _

theorem serveSetTiming_keepsForm (p : List Byte) (s : State) :
    KeepsForm s (serveSetTiming p s).1 := by
  unfold serveSetTiming setTiming
  split
  · refine unlessLocked_keepsForm ?_
    split
    · refine guard_keepsForm ?_
      split
      · exact .refl _
      next hconv =>
        split
        · exact .refl _
        · exact withTiming_keepsForm fun h => setSet_inRange h _ (convertTiming_inRange hconv)
    · exact .refl _
  · exact .refl _

theorem startRun_keepsForm (s : State) : KeepsForm s (startRun s) :=
  stepStart_keepsForm_of_eq rfl rfl rfl

theorem serveStart_keepsForm (p : List Byte) (s : State) : KeepsForm s (serveStart p s).1 := by
  unfold serveStart start
  split
  · refine unlessLocked_keepsForm ?_
    split
    · exact startRun_keepsForm _
    · exact .refl _
  · exact .refl _

theorem serveStop_keepsForm (p : List Byte) (s : State) : KeepsForm s (serveStop p s).1 := by
  unfold serveStop stop
  split
  · exact unlessLocked_keepsForm (guard_keepsForm (stopped_keepsForm _ _))
  · exact .refl _

theorem serveContinueRun_keepsForm (p : List Byte) (s : State) :
    KeepsForm s (serveContinueRun p s).1 := by
  unfold serveContinueRun continueRun
  split
  · refine unlessLocked_keepsForm ?_
    split
    · exact continueFrom_keepsForm _ _
    · exact .refl _
  · exact .refl _

theorem serveRelease_keepsForm (p : List Byte) (s : State) :
    KeepsForm s (serveRelease p s).1 := by
  unfold serveRelease release
  split
  · refine unlessLocked_keepsForm ?_
    split
    · exact released_keepsForm _
    · exact .refl _
  · exact .refl _

theorem serveSplice_keepsForm (p : List Byte) (s : State) : KeepsForm s (serveSplice p s).1 := by
  unfold serveSplice splice
  split
  · split
    · exact .refl _
    split
    · dsimp only
      split
      · exact .refl _
      · exact acceptSplice_keepsForm _ _
    · exact .refl _
  · exact .refl _

theorem serveSuspend_keepsForm (p : List Byte) (s : State) :
    KeepsForm s (serveSuspend p s).1 := by
  unfold serveSuspend suspend
  split
  · refine unlessLocked_keepsForm (guard_keepsForm ?_)
    split
    · exact .refl _
    · exact guard_keepsForm ((withEngine_keepsForm s _).trans (runEnd_keepsForm .suspended _))
  · exact .refl _

theorem serveResume_keepsForm (p : List Byte) (s : State) : KeepsForm s (serveResume p s).1 := by
  unfold serveResume resume
  split
  · refine unlessLocked_keepsForm (guard_keepsForm ?_)
    split
    · exact .refl _
    refine guard_keepsForm ?_
    split
    · exact .refl _
    · exact stepStart_keepsForm_of_eq rfl rfl rfl
  · exact .refl _

theorem startSurvey_keepsForm (l : LaneSet) (t : TimingId) (n : Lane) (s : State) :
    KeepsForm s (startSurvey l t n s) := by
  unfold startSurvey
  refine KeepsForm.trans ?_ (surveyStepStart_keepsForm n _)
  exact .of_eq rfl rfl rfl

theorem serveSurvey_keepsForm (p : List Byte) (s : State) : KeepsForm s (serveSurvey p s).1 := by
  unfold serveSurvey survey
  split
  · refine unlessLocked_keepsForm (guard_keepsForm ?_)
    split
    · exact .refl _
    split
    · exact startSurvey_keepsForm _ _ _ _
    · exact .refl _
  · exact .refl _

/-! ## Requests that write the lane counts or the reference map -/

theorem serveClearLane_keepsForm (p : List Byte) (s : State) :
    KeepsForm s (serveClearLane p s).1 := by
  unfold serveClearLane clearLane
  split
  · exact unlessLocked_keepsForm (guard_keepsForm (withChecker_keepsForm _ _))
  · exact .refl _

theorem serveLoadReference_keepsForm (p : List Byte) (s : State) :
    KeepsForm s (serveLoadReference p s).1 := by
  unfold serveLoadReference loadReference
  split
  · refine unlessLocked_keepsForm (guard_keepsForm ?_)
    split
    · exact .refl _
    · exact withSurvey_keepsForm _ _
  · exact .refl _

theorem serveAdoptReference_keepsForm (p : List Byte) (s : State) :
    KeepsForm s (serveAdoptReference p s).1 := by
  unfold serveAdoptReference adoptReference
  split
  · exact unlessLocked_keepsForm (guard_keepsForm (guard_keepsForm (withSurvey_keepsForm _ _)))
  · exact .refl _

/-! ## Every request -/

/-- Every request's body keeps the three laws: those above by their own lemmas, and the others
because no branch of theirs touches the vectors, the lanes or the timing unit. -/
theorem body_keepsForm {i : Instr} {body : List Byte → State → Served} (hb : bodyOf i = some body)
    (p : List Byte) (s : State) : KeepsForm s (body p s).1 := by
  cases i <;> cases hb
  case resetEngine => exact serveResetEngine_keepsForm p s
  case setBank => exact serveSetBank_keepsForm p s
  case setIdlePolicy => exact serveSetIdlePolicy_keepsForm p s
  case stageStatic => exact serveStageStatic_keepsForm p s
  case applyStatic => exact serveApplyStatic_keepsForm p s
  case definePattern => exact serveDefinePattern_keepsForm p s
  case writeVectors => exact serveWriteVectors_keepsForm p s
  case setTiming => exact serveSetTiming_keepsForm p s
  case start => exact serveStart_keepsForm p s
  case stop => exact serveStop_keepsForm p s
  case continueRun => exact serveContinueRun_keepsForm p s
  case release => exact serveRelease_keepsForm p s
  case splice => exact serveSplice_keepsForm p s
  case suspend => exact serveSuspend_keepsForm p s
  case resume => exact serveResume_keepsForm p s
  case survey => exact serveSurvey_keepsForm p s
  case clearLane => exact serveClearLane_keepsForm p s
  case loadReference => exact serveLoadReference_keepsForm p s
  case adoptReference => exact serveAdoptReference_keepsForm p s
  all_goals
    simp only [serveStatus, servePosition, serveNoticeMask, serveReadLanes, serveDefineGenerator,
      serveReadVectors, serveDeletePattern, serveListPatterns, serveReadTiming, serveEditSlot,
      serveSetSlotCount, serveReadRotation, serveCommitRotation, serveWithdrawCommit, serveArm,
      serveDisarm, serveHold, serveAdvance, serveReadSnapshot, serveLoadSnapshot,
      serveDiscardSnapshot, serveSetCheck, serveReadFails, serveReadCounts,
      serveReadNetMap, serveClearReference,
      serveSetTrigger, serveCapture, serveReadCapture, status, noticeMask, readLanes,
      defineGenerator, readVectors, deletePattern, listPatterns, readTiming, editSlot, setSlotCount,
      readRotation, commitRotation, withdrawCommit, arm, disarm, hold, advance, readSnapshot,
      loadSnapshot, discardSnapshot, setCheck, readFails, readCounts, clearReference, setTrigger,
      setSpliceTrigger, writeTrigger, capture,
      unlessLocked]
    repeat' split
    all_goals exact .of_eq rfl rfl rfl

/-! ## Every row -/

/-- A request row keeps what its work keeps. -/
theorem serveFrame_keepsForm {work : State → State} (h : ∀ t, KeepsForm t (work t)) (f : LinkFrame)
    (s : State) : KeepsForm s (serveFrame f work s) := by
  rcases serveFrame_cases s f work with e | e | ⟨e, -⟩ <;> rw [e]
  · exact .refl s
  · exact withLink_keepsForm s _
  · refine KeepsForm.trans ?_ (h _)
    exact .of_eq (by rw [State.submit_store]) (State.submit_output s f) (State.submit_timing s f)

/-- A request answered at once keeps what its body keeps. -/
theorem serveRequest_keepsForm {body : List Byte → State → Served}
    (h : ∀ p t, KeepsForm t (body p t).1) (f : LinkFrame) (s : State) :
    KeepsForm s (serveRequest f body s) :=
  serveFrame_keepsForm (fun t => (h f.payload t).trans (withLink_keepsForm _ _)) f s

theorem completePack_keepsForm (f : LinkFrame) (plan : List PackMove) (s : State) :
    KeepsForm s (completePack f plan s) :=
  (withStore_keepsForm fun _ => Memory.relocated_wf _ plan).trans (withLink_keepsForm _ _)

theorem packStore_keepsForm (f : LinkFrame) (s : State) : KeepsForm s (packStore f s) := by
  unfold packStore
  split
  · exact withLink_keepsForm s _
  split
  · exact withLink_keepsForm s _
  split
  · exact withLink_keepsForm s _
  split
  · exact completePack_keepsForm f _ s
  · exact withStore_keepsForm id

theorem fullReset_keepsForm (straps : BitVec 2) (s : State) : KeepsForm s (fullReset straps s) :=
  ⟨fun _ => lawfulAtReset.storeCanonical, fun _ => lawfulAtReset.follow,
    fun _ => lawfulAtReset.timing⟩

theorem captureAction_keepsForm (input : TrigInput) (s : State) :
    KeepsForm s (captureAction input s) := by
  unfold captureAction
  split
  · exact (withTrigger_keepsForm s _).trans (withLink_keepsForm _ _)
  · exact .refl s

theorem spliceAction_keepsForm (input : TrigInput) (x : Splice) (s : State) :
    KeepsForm s (spliceAction input x s) := by
  unfold spliceAction
  split
  · exact withLink_keepsForm s _
  · exact acceptSplice_keepsForm x s

/-- An event that occurs or leaves the state as it is keeps what its occurrence keeps. -/
theorem ite_keepsForm {c : Prop} [Decidable c] {s t : State} (h : KeepsForm s t) :
    KeepsForm s (if c then t else s) := by
  split
  · exact h
  · exact .refl s

/-- A trigger row keeps what its action keeps. -/
theorem triggerRow_keepsForm {act : State → State} (h : ∀ t, KeepsForm t (act t))
    (input : TrigInput) (action : TrigAction) (s : State) :
    KeepsForm s (triggerRow input action act s) :=
  ite_keepsForm ((withTrigger_keepsForm s _).trans (h _))

theorem checkStrobe_keepsForm (a : Assembly) (r : Option VectorRec) (s : State) :
    KeepsForm s (checkStrobe a r s) := judge_keepsForm _ _ _ s

/-- A row's outcome keeps what the state in it keeps. -/
theorem next_keepsForm {s t u : State} (h : KeepsForm s u)
    (e : (Host.Outcome.next u : Host.Outcome State Fault Refusal) = .next t) : KeepsForm s t :=
  Host.Outcome.next.inj e ▸ h

/-- Every row answered at once keeps the three laws: by its body where its kind is well-formed, and
by not occurring otherwise. -/
theorem request_keepsForm {i : Instr} {body : List Byte → State → Served} {s t : State}
    (hb : bodyOf i = some body) (h : exec i s = .next t) : KeepsForm s t := by
  by_cases hk : i.kindWf = true
  · obtain ⟨f, hf⟩ := frame?_of_bodyOf hb
    rw [exec_eq_serveRequest hk hf hb] at h
    exact next_keepsForm (serveRequest_keepsForm (body_keepsForm hb) f s) h
  · rw [exec_of_not_kindWf hk] at h
    exact next_keepsForm (.refl s) h

/-- Every other row, an event or PACK_STORE, keeps the three laws. -/
theorem event_keepsForm {i : Instr} {s t : State} (hb : bodyOf i = none)
    (h : exec i s = .next t) : KeepsForm s t := by
  cases i <;> cases hb
  case fullReset straps => exact next_keepsForm (fullReset_keepsForm straps s) h
  case resetnDeasserted straps =>
    refine next_keepsForm ?_ h
    split
    · exact .refl s
    · exact fullReset_keepsForm straps s
  case startUpEnd =>
    refine next_keepsForm ?_ h
    split
    · exact .refl s
    · exact .of_eq rfl rfl rfl
  case frameComplete => exact next_keepsForm (ite_keepsForm (withLink_keepsForm s _)) h
  case byteGapTimeout => exact next_keepsForm (ite_keepsForm (withLink_keepsForm s _)) h
  case characterReceived => exact next_keepsForm (ite_keepsForm (withLink_keepsForm s _)) h
  case frameSent => exact next_keepsForm (withLink_keepsForm s _) h
  case packStore => exact next_keepsForm (serveFrame_keepsForm (packStore_keepsForm _) _ s) h
  case packComplete =>
    revert h
    simp only [exec, execPackComplete]
    split
    · exact next_keepsForm (completePack_keepsForm _ _ s)
    · exact next_keepsForm (.refl s)
  case triggerLevelChange =>
    exact next_keepsForm (triggerRow_keepsForm KeepsForm.refl _ _ s) h
  case startTrigger =>
    exact next_keepsForm
      (triggerRow_keepsForm (fun u => ite_keepsForm (startRun_keepsForm u)) _ _ s) h
  case stopTrigger =>
    exact next_keepsForm
      (triggerRow_keepsForm (fun u => ite_keepsForm (stopped_keepsForm _ u)) _ _ s) h
  case releaseTrigger =>
    exact next_keepsForm
      (triggerRow_keepsForm (fun u => ite_keepsForm (released_keepsForm u)) _ _ s) h
  case advanceTrigger =>
    exact next_keepsForm
      (triggerRow_keepsForm (fun u => ite_keepsForm (withEngine_keepsForm u _)) _ _ s) h
  case captureTrigger input =>
    exact next_keepsForm (triggerRow_keepsForm (captureAction_keepsForm input) _ _ s) h
  case spliceTrigger input =>
    revert h
    simp only [exec, execSpliceTrigger]
    split
    · exact next_keepsForm ((withTrigger_keepsForm s _).trans (spliceAction_keepsForm input _ _))
    · exact next_keepsForm (.refl s)
  case strobe a =>
    exact next_keepsForm
      (ite_keepsForm ((reachStrobe_keepsForm s).trans (checkStrobe_keepsForm a _ _))) h
  case stepEnd => exact next_keepsForm (ite_keepsForm (rotationStepEnd_keepsForm s)) h
  case waitTimeout => exact next_keepsForm (ite_keepsForm (runEnd_keepsForm _ s)) h
  case surveyStrobe a =>
    exact next_keepsForm (ite_keepsForm ((reachStrobe_keepsForm s).trans
      ((writeEntry_keepsForm a _).trans (checkStrobe_keepsForm a _ _)))) h
  case surveyStepEnd => exact next_keepsForm (ite_keepsForm (surveyStepEnd_keepsForm s)) h

theorem exec_keepsForm {i : Instr} {s t : State} (h : exec i s = .next t) : KeepsForm s t := by
  cases hb : bodyOf i with
  | some body => exact request_keepsForm hb h
  | none => exact event_keepsForm hb h

/-! ## Every step -/

theorem tick_keepsForm (s : State) : KeepsForm s (tick s) :=
  ⟨id, id, fun h => timing_tick_inRange h _⟩

theorem step_keepsForm {s t : State} (h : step s = .next t) : KeepsForm s t := by
  unfold step at h
  split at h
  · exact next_keepsForm (tick_keepsForm s) h
  next rest _ =>
    exact KeepsForm.trans (t := s.withPending rest) (.of_eq rfl rfl rfl) (exec_keepsForm h)

/-- Settles O56: a step is a tick or a row, and both keep the three laws. -/
theorem stepKeepsStoreLanesAndTiming : Obligations.StepKeepsStoreLanesAndTiming := by
  unfold Obligations.StepKeepsStoreLanesAndTiming
  intro s t h
  obtain ⟨hvectors, hlanes, htiming⟩ := step_keepsForm h
  exact ⟨hvectors, fun hs => (followLaw_iff t).2 (hlanes ((followLaw_iff s).1 hs)),
    fun hs => (timingLaw_iff t).2 (htiming ((timingLaw_iff s).1 hs))⟩

end Sys2Proof.Machine
end

section
/-! SUPPORT. Free records (R21, R22): the extents in order of base, the free runs between them, and
the settlement of first fit. -/

namespace Sys2Proof.Machine

open Safety

/-! ## The directory's laws, of the store alone -/

/-- The entries lie in their ranges and no two extents overlap: `DirectoryLaw` and `ExtentsApart` of
a store by itself. -/
structure Store.Sound (t : Store) : Prop where
  inRange : ∀ p : PatternId, entryInRange (t.content p) = true
  apart   : ∀ p q : PatternId, p ≠ q → ∀ e ∈ t.extent? p, ∀ f ∈ t.extent? q, Apart e f

/-- A pattern's extent is its stored entry's (R19). -/
theorem extent?_eq_some {t : Store} {p : PatternId} {e : PackMove} :
    t.extent? p = some e ↔
      t.content p = .stored e.length e.base ∧ e.id = p ∧ e.dest = e.base := by
  obtain ⟨i, b, n, d⟩ := e
  unfold Store.extent?
  cases t.content p <;> simp
  grind

theorem stored_inRange {n b : Nat} (h : entryInRange (.stored n b) = true) :
    1 ≤ n ∧ b + n ≤ 2048 := by
  simp only [entryInRange, Bool.and_eq_true, decide_eq_true_eq] at h
  exact h

/-! ## The extents in order of base -/

/-- Extents one after another above `cursor`, none empty, all within the store. -/
def Laid (cursor : Nat) : List PackMove → Prop
  | [] => cursor ≤ Config.storeSize
  | e :: es => cursor ≤ e.base ∧ 1 ≤ e.length ∧ Laid (e.base + e.length) es

theorem Laid.cursor_le {c : Nat} {es : List PackMove} (h : Laid c es) : c ≤ Config.storeSize := by
  induction es generalizing c with
  | nil => exact h
  | cons e es ih =>
    obtain ⟨hc, _, ht⟩ := h
    have := ih ht
    omega

/-- Every extent lies above the cursor. -/
theorem Laid.above {c : Nat} {es : List PackMove} (h : Laid c es) : ∀ e ∈ es, c ≤ e.base := by
  induction es generalizing c with
  | nil => simp
  | cons e es ih =>
    obtain ⟨hc, _, ht⟩ := h
    intro f hf
    rcases List.mem_cons.1 hf with rfl | hf
    · exact hc
    · have := ih ht f hf
      omega

/-- Each extent lies below the later ones. -/
theorem Laid.pairwise {c : Nat} {es : List PackMove} (h : Laid c es) :
    es.Pairwise fun e f => e.base + e.length ≤ f.base := by
  induction es generalizing c with
  | nil => exact List.Pairwise.nil
  | cons e es ih =>
    obtain ⟨_, _, ht⟩ := h
    exact List.pairwise_cons.2 ⟨ht.above, ih ht⟩

/-- Two extents of a list have no record in common. -/
theorem Laid.apart {c : Nat} {es : List PackMove} (h : Laid c es) {e f : PackMove} (he : e ∈ es)
    (hf : f ∈ es) (hne : e ≠ f) : Apart e f := by
  have hapart : es.Pairwise Apart := h.pairwise.imp Or.inl
  have : Std.Symm Apart := ⟨fun _ _ => Or.symm⟩
  exact hapart.forall he hf hne

/-- A list whose extents lie each below the later ones is laid above any lower cursor. -/
theorem laid_of_pairwise {c : Nat} {es : List PackMove}
    (hp : es.Pairwise fun e f => e.base + e.length ≤ f.base) (hc : c ≤ Config.storeSize)
    (h : ∀ e ∈ es, c ≤ e.base ∧ 1 ≤ e.length ∧ e.base + e.length ≤ Config.storeSize) :
    Laid c es := by
  induction es generalizing c with
  | nil => exact hc
  | cons e es ih =>
    obtain ⟨hce, h1, hsize⟩ := h e (by simp)
    obtain ⟨habove, hp⟩ := List.pairwise_cons.1 hp
    refine ⟨hce, h1, ih hp hsize fun f hf => ?_⟩
    obtain ⟨_, hf1, hfsize⟩ := h f (List.mem_cons_of_mem _ hf)
    exact ⟨habove f hf, hf1, hfsize⟩

/-- The extents are those of the stored patterns, sorted by base. -/
theorem extents_eq_insertionSort (t : Store) :
    t.extents =
      ((List.finRange 32).filterMap t.extent?).insertionSort fun e f => e.base ≤ f.base := by
  have hins : ∀ e l, insertByBase e l = l.orderedInsert (fun e f => e.base ≤ f.base) e := by
    intro e l
    induction l with
    | nil => rfl
    | cons f l ih => simp only [insertByBase, List.orderedInsert_cons, ih]
  have hfun : insertByBase = List.orderedInsert fun e f => e.base ≤ f.base :=
    funext fun e => funext (hins e)
  rw [Store.extents, hfun]
  rfl

theorem extents_perm (t : Store) :
    t.extents.Perm ((List.finRange 32).filterMap t.extent?) := by
  rw [extents_eq_insertionSort]
  exact List.perm_insertionSort _ _

theorem mem_extents {t : Store} {e : PackMove} :
    e ∈ t.extents ↔ t.extent? e.id = some e := by
  rw [(extents_perm t).mem_iff, List.mem_filterMap]
  constructor
  · rintro ⟨p, _, hp⟩
    obtain ⟨_, rfl, _⟩ := extent?_eq_some.1 hp
    exact hp
  · exact fun h => ⟨e.id, List.mem_finRange _, h⟩

theorem extents_sorted (t : Store) : t.extents.Pairwise fun e f => e.base ≤ f.base := by
  have : Std.Total fun e f : PackMove => e.base ≤ f.base := ⟨fun e f => Nat.le_total e.base f.base⟩
  have : IsTrans PackMove fun e f => e.base ≤ f.base := ⟨fun _ _ _ => Nat.le_trans⟩
  rw [extents_eq_insertionSort]
  exact List.pairwise_insertionSort _ _

/-- Each pattern has one extent at most. -/
theorem extents_ids (t : Store) : t.extents.Pairwise fun e f => e.id ≠ f.id := by
  refine ((extents_perm t).pairwise_iff fun h => Ne.symm h).2 ?_
  refine List.pairwise_filterMap.2 ((List.nodup_finRange 32).imp ?_)
  intro p q hpq e he f hf
  obtain ⟨_, rfl, _⟩ := extent?_eq_some.1 he
  obtain ⟨_, rfl, _⟩ := extent?_eq_some.1 hf
  exact hpq

/-- The extents of a lawful directory are laid out from record 0 (R21). -/
theorem extents_laid {t : Store} (h : t.Sound) : Laid 0 t.extents := by
  have hrange : ∀ e ∈ t.extents, 1 ≤ e.length ∧ e.base + e.length ≤ 2048 := by
    intro e he
    have hin := h.inRange e.id
    rw [(extent?_eq_some.1 (mem_extents.1 he)).1] at hin
    exact stored_inRange hin
  have hapart : t.extents.Pairwise fun e f => e.base + e.length ≤ f.base := by
    have hboth := (extents_sorted t).and (extents_ids t)
    refine List.Pairwise.imp_of_mem ?_ hboth
    rintro e f he hf ⟨hle, hne⟩
    have hf1 := (hrange f hf).1
    rcases h.apart e.id f.id hne e (mem_extents.1 he) f (mem_extents.1 hf) with hef | hfe <;> omega
  exact laid_of_pairwise hapart (Nat.zero_le _) fun e he =>
    ⟨Nat.zero_le _, (hrange e he).1, (hrange e he).2⟩

/-! ## The records no extent of a list holds -/

/-- Record `a` lies at or above `cursor`, within the store and outside every listed extent. -/
def FreeAbove (cursor : Nat) (es : List PackMove) (a : Nat) : Prop :=
  cursor ≤ a ∧ a < Config.storeSize ∧ ∀ e ∈ es, a < e.base ∨ e.base + e.length ≤ a

/-- A record is free exactly when the ordered extents leave it free (R21). -/
theorem recordFree_iff (t : Store) (a : Nat) : RecordFree t a ↔ FreeAbove 0 t.extents a := by
  constructor
  · rintro ⟨hsize, h⟩
    exact ⟨Nat.zero_le _, hsize, fun e he => h e.id e (mem_extents.1 he)⟩
  · rintro ⟨_, hsize, h⟩
    refine ⟨hsize, fun p e he => h e (mem_extents.2 ?_)⟩
    obtain ⟨_, rfl, _⟩ := extent?_eq_some.1 he
    exact he

/-- The free records are those below the first extent and those above it. -/
theorem freeAbove_cons {c : Nat} {e : PackMove} {es : List PackMove} (h : Laid c (e :: es))
    (a : Nat) :
    FreeAbove c (e :: es) a ↔ (c ≤ a ∧ a < e.base) ∨ FreeAbove (e.base + e.length) es a := by
  obtain ⟨hc, h1, ht⟩ := h
  have hsize := ht.cursor_le
  have habove := ht.above
  constructor
  · rintro ⟨hca, hsa, hall⟩
    rcases hall e (by simp) with hlt | hge
    · exact Or.inl ⟨hca, hlt⟩
    · exact Or.inr ⟨hge, hsa, fun f hf => hall f (List.mem_cons_of_mem _ hf)⟩
  · rintro (⟨hca, hlt⟩ | ⟨hge, hsa, hall⟩)
    · refine ⟨hca, by omega, fun f hf => Or.inl ?_⟩
      rcases List.mem_cons.1 hf with rfl | hf
      · exact hlt
      · have := habove f hf
        omega
    · refine ⟨by omega, hsa, fun f hf => ?_⟩
      rcases List.mem_cons.1 hf with rfl | hf
      · exact Or.inr hge
      · exact hall f hf

/-- The `n` records from `b` up are free above the cursor. -/
def Fits (cursor : Nat) (es : List PackMove) (n b : Nat) : Prop :=
  ∀ a, b ≤ a → a < b + n → FreeAbove cursor es a

theorem Fits.cursor_le {c n b : Nat} {es : List PackMove} (hn : 1 ≤ n) (h : Fits c es n b) :
    c ≤ b := (h b (Nat.le_refl b) (by omega)).1

theorem fits_nil {c n b : Nat} (hn : 1 ≤ n) :
    Fits c [] n b ↔ c ≤ b ∧ b + n ≤ Config.storeSize := by
  constructor
  · intro h
    have hlast := (h (b + n - 1) (by omega) (by omega)).2.1
    exact ⟨h.cursor_le hn, by omega⟩
  · rintro ⟨hc, hsize⟩ a hb ha
    exact ⟨by omega, by omega, by simp⟩

/-- Records in a row that are free lie all below the first extent or all above it. -/
theorem fits_cons {c n b : Nat} {e : PackMove} {es : List PackMove} (h : Laid c (e :: es))
    (hn : 1 ≤ n) :
    Fits c (e :: es) n b ↔ (c ≤ b ∧ b + n ≤ e.base) ∨ Fits (e.base + e.length) es n b := by
  constructor
  · intro hfit
    by_cases hb : b < e.base
    · left
      refine ⟨hfit.cursor_le hn, ?_⟩
      by_contra hover
      have hbase := (hfit e.base (by omega) (by omega)).2.2 e (by simp)
      have h1 := h.2.1
      omega
    · right
      intro a hba ha
      rcases (freeAbove_cons h a).1 (hfit a hba ha) with hbelow | habove
      · omega
      · exact habove
  · rintro (⟨hc, hbelow⟩ | hfit) a hba ha
    · exact (freeAbove_cons h a).2 (Or.inl ⟨by omega, by omega⟩)
    · exact (freeAbove_cons h a).2 (Or.inr (hfit a hba ha))

/-! ## First fit (R22) -/

/-- The first index of the first run of `n` records or more is the lowest place they fit. -/
theorem find_run_some {c n b : Nat} {es : List PackMove} (h : Laid c es) (hn : 1 ≤ n)
    (hf : ((freeRunsFrom c es).find? fun r => n ≤ r.2).map Prod.fst = some b) :
    Fits c es n b ∧ ∀ b', b' < b → ¬ Fits c es n b' := by
  induction es generalizing c with
  | nil =>
    simp only [freeRunsFrom] at hf
    split at hf
    · simp only [List.find?_cons, List.find?_nil] at hf
      split at hf
      next hle =>
        obtain rfl : c = b := by simpa using hf
        have hle := of_decide_eq_true hle
        exact ⟨(fits_nil hn).2 ⟨Nat.le_refl _, by omega⟩, fun b' hb' hfit =>
          absurd (hfit.cursor_le hn) (by omega)⟩
      · simp at hf
    · simp at hf
  | cons e es ih =>
    have ⟨hc, _, ht⟩ := h
    have hrest : ((freeRunsFrom (e.base + e.length) es).find? fun r => n ≤ r.2).map Prod.fst
        = some b → ¬ n ≤ e.base - c →
        Fits c (e :: es) n b ∧ ∀ b', b' < b → ¬ Fits c (e :: es) n b' := by
      intro hf hsmall
      obtain ⟨hfit, hlow⟩ := ih ht hf
      refine ⟨(fits_cons h hn).2 (Or.inr hfit), fun b' hb' hfit' => ?_⟩
      rcases (fits_cons h hn).1 hfit' with hbelow | habove
      · omega
      · exact hlow b' hb' habove
    simp only [freeRunsFrom] at hf
    split at hf
    · rw [List.find?_cons] at hf
      split at hf
      next hle =>
        obtain rfl : c = b := by simpa using hf
        have hle := of_decide_eq_true hle
        exact ⟨(fits_cons h hn).2 (Or.inl ⟨Nat.le_refl _, by omega⟩), fun b' hb' hfit =>
          absurd (hfit.cursor_le hn) (by omega)⟩
      next hle => exact hrest hf (of_decide_eq_false hle)
    · exact hrest hf (by omega)

/-- Where no run has `n` records, they fit nowhere. -/
theorem find_run_none {c n : Nat} {es : List PackMove} (h : Laid c es) (hn : 1 ≤ n)
    (hf : ∀ r ∈ freeRunsFrom c es, ¬ n ≤ r.2) (b : Nat) : ¬ Fits c es n b := by
  induction es generalizing c with
  | nil =>
    rw [fits_nil hn]
    rintro ⟨hcb, hsize⟩
    exact hf (c, Config.storeSize - c) (by simp [freeRunsFrom]; omega) (by dsimp only; omega)
  | cons e es ih =>
    rw [fits_cons h hn]
    have ⟨_, _, ht⟩ := h
    rintro (⟨hcb, hbelow⟩ | hfit)
    · refine hf (c, e.base - c) ?_ (by dsimp only; omega)
      rw [freeRunsFrom, if_pos (by omega)]
      exact List.mem_cons_self
    · refine ih ht (fun r hr => hf r ?_) hfit
      simp only [freeRunsFrom]
      split
      · exact List.mem_cons_of_mem _ hr
      · exact hr

/-- First fit is the lowest place at which the records asked for are free (R22). -/
theorem firstFit_some {t : Store} {n b : Nat} (h : t.Sound) (hn : 1 ≤ n)
    (hf : t.firstFit n = some b) :
    (∀ a, b ≤ a → a < b + n → RecordFree t a) ∧
      ∀ b', b' < b → ∃ a, b' ≤ a ∧ a < b' + n ∧ ¬ RecordFree t a := by
  obtain ⟨hfit, hlow⟩ := find_run_some (extents_laid h) hn hf
  refine ⟨fun a hb ha => (recordFree_iff t a).2 (hfit a hb ha), fun b' hb' => ?_⟩
  simpa [Fits, recordFree_iff] using hlow b' hb'

/-- Where first fit finds nothing, every place of so many records meets one in use. -/
theorem firstFit_none {t : Store} {n : Nat} (h : t.Sound) (hn : 1 ≤ n)
    (hf : t.firstFit n = none) (b : Nat) :
    ∃ a, b ≤ a ∧ a < b + n ∧ ¬ RecordFree t a := by
  have hruns : ∀ r ∈ freeRunsFrom 0 t.extents, ¬ n ≤ r.2 := by
    simpa [Store.firstFit, Store.freeRuns] using hf
  simpa [Fits, recordFree_iff] using find_run_none (extents_laid h) hn hruns b

/-! ## The two figures (R21) -/

theorem le_foldl_max {n c : Nat} {l : List Nat} :
    n ≤ l.foldl max c ↔ n ≤ c ∨ ∃ x ∈ l, n ≤ x := by
  induction l generalizing c with
  | nil => simp
  | cons x l ih => rw [List.foldl_cons, ih, le_max_iff, List.exists_mem_cons_iff, or_assoc]

/-- A run of `n` free records fits exactly where the largest free extent holds so many (R21). -/
theorem le_largestFree_iff {t : Store} {n : Nat} (h : t.Sound) (hn : 1 ≤ n) :
    n ≤ t.largestFree ↔ ∃ b, ∀ a, b ≤ a → a < b + n → RecordFree t a := by
  have hrun : n ≤ t.largestFree ↔ t.firstFit n ≠ none := by
    simp only [Store.largestFree, le_foldl_max, Store.firstFit, ne_eq, Option.map_eq_none_iff,
      List.find?_eq_none, List.mem_map, decide_eq_true_eq]
    grind
  rw [hrun]
  constructor
  · intro hne
    obtain ⟨b, hb⟩ := Option.ne_none_iff_exists'.1 hne
    exact ⟨b, (firstFit_some h hn hb).1⟩
  · rintro ⟨b, hb⟩ hnone
    obtain ⟨a, hba, ha, hused⟩ := firstFit_none h hn hnone b
    exact hused (hb a hba ha)

/-- A sum over the stored patterns' extents is the sum over all patterns, the others counting 0. -/
theorem sum_extents (t : Store) (g : PackMove → Nat) :
    (t.extents.map g).sum =
      ((List.finRange 32).map fun p => ((t.extent? p).map g).getD 0).sum := by
  rw [((extents_perm t).map g).sum_eq]
  induction List.finRange 32 with
  | nil => rfl
  | cons p l ih => cases he : t.extent? p <;> simp [he, ih]

/-- The records in use are those of the extents. -/
theorem used_eq_sum_extents (t : Store) : t.used = (t.extents.map PackMove.length).sum := by
  rw [sum_extents]
  refine congrArg List.sum (List.map_congr_left fun p _ => ?_)
  unfold Store.extent?
  cases t.content p <;> rfl

/-- The free records above a cursor, the extents' records and the cursor make up the store. -/
theorem ncard_freeAbove {c : Nat} {es : List PackMove} (h : Laid c es) :
    {a | FreeAbove c es a}.ncard + (es.map PackMove.length).sum + c = Config.storeSize := by
  induction es generalizing c with
  | nil =>
    have hset : {a | FreeAbove c [] a} = (Finset.Ico c Config.storeSize : Set Nat) := by
      ext a
      simp [FreeAbove]
    have hc : c ≤ Config.storeSize := h
    rw [hset, Set.ncard_coe_finset, Nat.card_Ico]
    simp only [List.map_nil, List.sum_nil]
    omega
  | cons e es ih =>
    have ⟨hc, _, ht⟩ := h
    have hset : {a | FreeAbove c (e :: es) a} =
        (Finset.Ico c e.base : Set Nat) ∪ {a | FreeAbove (e.base + e.length) es a} := by
      ext a
      simp [freeAbove_cons h a]
    have hfin : {a | FreeAbove (e.base + e.length) es a}.Finite :=
      (Set.finite_Iio Config.storeSize).subset fun a ha => ha.2.1
    have hdisj : Disjoint (Finset.Ico c e.base : Set Nat)
        {a | FreeAbove (e.base + e.length) es a} := by
      rw [Set.disjoint_left]
      intro a hlow hhigh
      have hlow := (Finset.mem_Ico.1 (Finset.mem_coe.1 hlow)).2
      have hhigh := hhigh.1
      omega
    have := ih ht
    rw [hset, Set.ncard_union_eq hdisj (Finset.finite_toSet _) hfin, Set.ncard_coe_finset,
      Nat.card_Ico, List.map_cons, List.sum_cons]
    omega

/-- The free count counts the free records (R21). -/
theorem ncard_recordFree {t : Store} (h : t.Sound) :
    {a | RecordFree t a}.ncard = t.freeCount := by
  have hcount := ncard_freeAbove (extents_laid h)
  simp only [recordFree_iff, Store.freeCount, used_eq_sum_extents]
  omega

/-- Settles O18: the lemmas on first fit and on the two figures, put together. -/
theorem allocationIsFirstFit : Obligations.AllocationIsFirstFit := by
  unfold Obligations.AllocationIsFirstFit
  intro s hdir hapart
  have h : s.store.Sound := ⟨hdir, hapart⟩
  exact ⟨fun _ _ hn hf => firstFit_some h hn hf, fun _ hn hf => firstFit_none h hn hf,
    fun _ hn => le_largestFree_iff h hn, ncard_recordFree h⟩

end Sys2Proof.Machine
end

section
/-! SUPPORT. The pack (R36, R37): where its plan brings every extent, and what the packed store
holds. -/

namespace Sys2Proof.Machine

open Safety

/-! ## The plan (R36) -/

/-- The extent that a move leaves: at its destination. -/
def PackMove.moved (m : PackMove) : PackMove := { m with base := m.dest }

/-- A move as it stands before the plan gives it a destination. -/
def PackMove.source (m : PackMove) : PackMove := { m with dest := m.base }

/-- The plan moves the extents it was made from, each once and in their order. -/
theorem packFrom_sources {es : List PackMove} (h : ∀ e ∈ es, e.dest = e.base) (c : Nat) :
    (packFrom c es).map PackMove.source = es := by
  induction es generalizing c with
  | nil => rfl
  | cons e es ih =>
    obtain ⟨he, hes⟩ := List.forall_mem_cons.1 h
    rw [packFrom, List.map_cons, ih hes]
    obtain ⟨i, b, n, d⟩ := e
    obtain rfl : d = b := he
    rfl

/-- Destinations follow one another from the cursor up, none above its extent's base. -/
theorem packFrom_laid {c d : Nat} {es : List PackMove} (h : Laid d es) (hcd : c ≤ d) :
    Laid c ((packFrom c es).map PackMove.moved) ∧ ∀ m ∈ packFrom c es, m.dest ≤ m.base := by
  induction es generalizing c d with
  | nil => exact ⟨Nat.le_trans hcd h, by simp [packFrom]⟩
  | cons e es ih =>
    obtain ⟨hde, h1, ht⟩ := h
    obtain ⟨hlaid, hle⟩ := ih ht (c := c + e.length) (by omega)
    refine ⟨⟨Nat.le_refl c, h1, hlaid⟩, List.forall_mem_cons.2 ⟨Nat.le_trans hcd hde, hle⟩⟩

/-- The destinations fill the records from the cursor up without a gap. -/
theorem packFrom_covers (c : Nat) (es : List PackMove) (a : Nat) :
    (∃ m ∈ packFrom c es, m.dest ≤ a ∧ a < m.dest + m.length) ↔
      c ≤ a ∧ a < c + (es.map PackMove.length).sum := by
  induction es generalizing c with
  | nil => simp [packFrom]
  | cons e es ih =>
    simp only [packFrom, List.exists_mem_cons_iff, ih, List.map_cons, List.sum_cons]
    omega

theorem packPlan_sources (t : Store) : t.packPlan.map PackMove.source = t.extents :=
  packFrom_sources (fun _ he => (extent?_eq_some.1 (mem_extents.1 he)).2.2) 0

/-- A move of the plan is one of a stored pattern. -/
theorem content_of_mem_packPlan {t : Store} {m : PackMove} (h : m ∈ t.packPlan) :
    t.content m.id = .stored m.length m.base := by
  have hsource : m.source ∈ t.extents := packPlan_sources t ▸ List.mem_map_of_mem h
  exact (extent?_eq_some.1 (mem_extents.1 hsource)).1

/-- Every stored pattern has its move. -/
theorem exists_move {t : Store} {p : PatternId} {n b : Nat} (h : t.content p = .stored n b) :
    ∃ d, (⟨p, b, n, d⟩ : PackMove) ∈ t.packPlan := by
  have hext : (⟨p, b, n, b⟩ : PackMove) ∈ t.packPlan.map PackMove.source := by
    rw [packPlan_sources]
    exact mem_extents.2 (extent?_eq_some.2 ⟨h, rfl, rfl⟩)
  obtain ⟨⟨i, b', n', d⟩, hm, heq⟩ := List.mem_map.1 hext
  simp only [PackMove.source, PackMove.mk.injEq] at heq
  obtain ⟨rfl, rfl, rfl, _⟩ := heq
  exact ⟨d, hm⟩

theorem packPlan_ids (t : Store) : t.packPlan.Pairwise fun m k => m.id ≠ k.id := by
  have h := extents_ids t
  rw [← packPlan_sources t, List.pairwise_map] at h
  exact h

/-! ## The directory after a pack (R37) -/

theorem rebase_directory (t : Store) (m : PackMove) (p : PatternId) :
    (t.rebase m).directory[p] =
      if m.id = p then { t.directory[p] with content := .stored m.length m.dest }
      else t.directory[p] := by
  by_cases h : m.id = p
  · subst h
    simp [Store.rebase]
  · have : m.id.val ≠ p.val := fun hv => h (Fin.ext hv)
    simp [Store.rebase, h, this]

/-- An entry that no move names stays as it was. -/
theorem foldl_rebase_other (plan : List PackMove) (t : Store) (p : PatternId)
    (h : ∀ m ∈ plan, m.id ≠ p) : (plan.foldl Store.rebase t).directory[p] = t.directory[p] := by
  induction plan generalizing t with
  | nil => rfl
  | cons k plan ih =>
    obtain ⟨hk, hplan⟩ := List.forall_mem_cons.1 h
    rw [List.foldl_cons, ih _ hplan, rebase_directory, if_neg hk]

/-- An entry that one move names has its base at the destination and keeps its generation. -/
theorem foldl_rebase_moved (plan : List PackMove) (t : Store) {m : PackMove} (hm : m ∈ plan)
    (hids : plan.Pairwise fun m k => m.id ≠ k.id) :
    (plan.foldl Store.rebase t).directory[m.id] =
      ⟨.stored m.length m.dest, t.directory[m.id].generation⟩ := by
  induction plan generalizing t with
  | nil => simp at hm
  | cons k plan ih =>
    obtain ⟨hk, hids⟩ := List.pairwise_cons.1 hids
    rw [List.foldl_cons]
    rcases List.mem_cons.1 hm with rfl | hm
    · rw [foldl_rebase_other _ _ _ fun j hj => (hk j hj).symm, rebase_directory, if_pos rfl]
    · rw [ih _ hm hids, rebase_directory, if_neg (hk m hm)]

/-- The store that a pack leaves. -/
def Store.afterPack (t : Store) : Store := t.packed t.packPlan

theorem afterPack_directory (t : Store) :
    t.afterPack.directory = (t.packPlan.foldl Store.rebase t).directory := rfl

/-- A pack brings a stored pattern to its destination, no higher than it was, and its entry keeps all
but the base (R37). -/
theorem afterPack_stored {t : Store} (h : t.Sound) {p : PatternId} {n b : Nat}
    (hp : t.content p = .stored n b) :
    ∃ d, d ≤ b ∧ (⟨p, b, n, d⟩ : PackMove) ∈ t.packPlan ∧
      t.afterPack.directory[p] = ⟨.stored n d, t.directory[p].generation⟩ := by
  obtain ⟨d, hm⟩ := exists_move hp
  refine ⟨d, (packFrom_laid (extents_laid h) (Nat.le_refl 0)).2 _ hm, hm, ?_⟩
  rw [afterPack_directory]
  exact foldl_rebase_moved _ t hm (packPlan_ids t)

/-- A pack leaves every other entry alone. -/
theorem afterPack_unstored {t : Store} {p : PatternId} (hp : t.extent? p = none) :
    t.afterPack.directory[p] = t.directory[p] := by
  rw [afterPack_directory]
  refine foldl_rebase_other _ t p fun m hm heq => ?_
  subst heq
  have := content_of_mem_packPlan hm
  simp [Store.extent?, this] at hp

/-- What a pack makes of an entry's content. -/
theorem afterPack_content {t : Store} (h : t.Sound) (p : PatternId) :
    (∃ n b d, t.content p = .stored n b ∧ d ≤ b ∧ (⟨p, b, n, d⟩ : PackMove) ∈ t.packPlan ∧
      t.afterPack.content p = .stored n d) ∨
    (t.extent? p = none ∧ t.afterPack.content p = t.content p) := by
  cases hp : t.content p with
  | stored n b =>
    obtain ⟨d, hd, hm, hdir⟩ := afterPack_stored h hp
    exact Or.inl ⟨n, b, d, rfl, hd, hm, congrArg DirEntry.content hdir⟩
  | undefined =>
    have hnone : t.extent? p = none := by simp [Store.extent?, hp]
    exact Or.inr ⟨hnone, (congrArg DirEntry.content (afterPack_unstored hnone)).trans hp⟩
  | generated n g =>
    have hnone : t.extent? p = none := by simp [Store.extent?, hp]
    exact Or.inr ⟨hnone, (congrArg DirEntry.content (afterPack_unstored hnone)).trans hp⟩

/-- A pack changes no pattern's being defined, its length, or its records' number. -/
theorem afterPack_same {t : Store} (h : t.Sound) (p : PatternId) :
    (t.afterPack.content p).isDefined = (t.content p).isDefined ∧
      (t.afterPack.content p).length = (t.content p).length ∧
      (t.afterPack.content p).records = (t.content p).records := by
  rcases afterPack_content h p with ⟨n, b, d, hp, _, _, hp'⟩ | ⟨_, hp'⟩
  · rw [hp, hp']
    exact ⟨rfl, rfl, rfl⟩
  · rw [hp']
    exact ⟨rfl, rfl, rfl⟩

/-- An extent of the packed store is where a move of the plan brought it. -/
theorem afterPack_extent {t : Store} (h : t.Sound) {p : PatternId} {e : PackMove} :
    t.afterPack.extent? p = some e ↔ ∃ m ∈ t.packPlan, m.id = p ∧ e = m.moved := by
  rw [extent?_eq_some]
  constructor
  · rintro ⟨hc, rfl, hd⟩
    rcases afterPack_content h e.id with ⟨n, b, d, _, _, hm, hp'⟩ | ⟨hnone, hp'⟩
    · obtain ⟨rfl, rfl⟩ : e.length = n ∧ e.base = d := by simpa [hc] using hp'
      obtain ⟨i, b', n', d'⟩ := e
      obtain rfl : d' = b' := hd
      exact ⟨_, hm, rfl, rfl⟩
    · simp [Store.extent?, ← hp', hc] at hnone
  · rintro ⟨m, hm, rfl, rfl⟩
    refine ⟨?_, rfl, rfl⟩
    have hdir := foldl_rebase_moved _ t hm (packPlan_ids t)
    exact congrArg DirEntry.content hdir

/-- The destinations, as extents, are laid out from record 0. -/
theorem moved_laid {t : Store} (h : t.Sound) : Laid 0 (t.packPlan.map PackMove.moved) :=
  (packFrom_laid (extents_laid h) (Nat.le_refl 0)).1

/-- The packed store's directory is lawful. -/
theorem afterPack_sound {t : Store} (h : t.Sound) : t.afterPack.Sound where
  inRange p := by
    have hin := h.inRange p
    rcases afterPack_content h p with ⟨n, b, d, hp, hd, _, hp'⟩ | ⟨_, hp'⟩
    · rw [hp] at hin
      have := stored_inRange hin
      simp only [hp', entryInRange, Bool.and_eq_true, decide_eq_true_eq]
      exact ⟨this.1, show d + n ≤ 2048 by omega⟩
    · rw [hp']
      exact hin
  apart p q hpq e he f hf := by
    obtain ⟨m, hm, rfl, rfl⟩ := (afterPack_extent h).1 he
    obtain ⟨k, hk, rfl, rfl⟩ := (afterPack_extent h).1 hf
    exact (moved_laid h).apart (List.mem_map_of_mem hm) (List.mem_map_of_mem hk)
      fun heq => hpq (show m.moved.id = k.moved.id from heq ▸ rfl)

/-! ## The figures after a pack (R36) -/

theorem afterPack_used {t : Store} (h : t.Sound) : t.afterPack.used = t.used := by
  simp only [Store.used, (afterPack_same h _).2.2]

theorem afterPack_freeCount {t : Store} (h : t.Sound) : t.afterPack.freeCount = t.freeCount := by
  rw [Store.freeCount, afterPack_used h, Store.freeCount]

theorem used_le {t : Store} (h : t.Sound) : t.used ≤ 2048 := by
  have := ncard_freeAbove (extents_laid h)
  rw [used_eq_sum_extents]
  exact Nat.le_of_add_left_le (Nat.le_of_eq this)

/-- After a pack the free records are one run at the top of the store. -/
theorem afterPack_free {t : Store} (h : t.Sound) (a : Nat) :
    RecordFree t.afterPack a ↔ 2048 - t.afterPack.freeCount ≤ a ∧ a < 2048 := by
  have hcover := packFrom_covers 0 t.extents a
  rw [← used_eq_sum_extents] at hcover
  have hused := used_le h
  have hfree : RecordFree t.afterPack a ↔ a < 2048 ∧ ¬ ∃ m ∈ t.packPlan,
      m.dest ≤ a ∧ a < m.dest + m.length := by
    refine and_congr Iff.rfl ⟨fun hall => ?_, fun hnone p e he => ?_⟩
    · rintro ⟨m, hm, hlo, hhi⟩
      have := hall m.id m.moved ((afterPack_extent h).2 ⟨m, hm, rfl, rfl⟩)
      simp only [PackMove.moved] at this
      omega
    · obtain ⟨m, hm, _, rfl⟩ := (afterPack_extent h).1 he
      have : ¬ (m.dest ≤ a ∧ a < m.dest + m.length) := fun hin => hnone ⟨m, hm, hin⟩
      simp only [PackMove.moved]
      omega
  have hcount : t.afterPack.freeCount = 2048 - t.used := afterPack_freeCount h
  rw [hfree, show (∃ m ∈ t.packPlan, m.dest ≤ a ∧ a < m.dest + m.length) ↔ _ from hcover, hcount]
  omega

/-- After a pack the largest free extent holds every free record (R36). -/
theorem afterPack_largestFree {t : Store} (h : t.Sound) :
    t.afterPack.largestFree = t.afterPack.freeCount := by
  have hfits := fun n hn => le_largestFree_iff (afterPack_sound h) (n := n) hn
  simp only [afterPack_free h] at hfits
  have hle : t.afterPack.freeCount ≤ 2048 := Nat.sub_le _ _
  apply Nat.le_antisymm
  · by_contra hlt
    obtain ⟨b, hb⟩ := (hfits t.afterPack.largestFree (by omega)).1 (Nat.le_refl _)
    have hfirst := hb b (Nat.le_refl b) (by omega)
    have hlast := hb (b + t.afterPack.largestFree - 1) (by omega) (by omega)
    omega
  · by_cases h0 : t.afterPack.freeCount = 0
    · omega
    · exact (hfits _ (by omega)).2 ⟨2048 - t.afterPack.freeCount, fun a hlo hhi => by omega⟩

/-! ## The records after a pack (R37) -/

/-- The sources of a plan, as extents, are laid out from record 0. -/
theorem source_apart {t : Store} (h : t.Sound) {m k : PackMove} (hm : m ∈ t.packPlan)
    (hk : k ∈ t.packPlan) (hne : m.id ≠ k.id) : Apart m k := by
  have hlaid := extents_laid h
  rw [← packPlan_sources t] at hlaid
  have hapart := hlaid.apart (List.mem_map_of_mem hm) (List.mem_map_of_mem hk)
    fun heq => hne (show m.source.id = k.source.id from heq ▸ rfl)
  exact hapart

/-- Moves of one pattern are one move. -/
theorem packPlan_id_inj {t : Store} {m k : PackMove} (hm : m ∈ t.packPlan)
    (hk : k ∈ t.packPlan) (h : m.id = k.id) : m = k := by
  by_contra hne
  have : Std.Symm fun m k : PackMove => m.id ≠ k.id := ⟨fun _ _ => Ne.symm⟩
  exact (packPlan_ids t).forall hm hk hne h

/-- A record of a moved extent goes to its place in the destination. -/
theorem relocate_of_mem {t : Store} (h : t.Sound) {m : PackMove} (hm : m ∈ t.packPlan) {i : Nat}
    (hi : i < m.length) : relocate t.packPlan (m.base + i) = some (m.dest + i) := by
  unfold relocate
  cases hf : t.packPlan.find? fun k => k.base ≤ m.base + i && m.base + i < k.base + k.length with
  | none =>
    have := List.find?_eq_none.1 hf m hm
    simp [hi] at this
  | some k =>
    have hk := List.mem_of_find?_eq_some hf
    have hin := List.find?_some hf
    simp only [Bool.and_eq_true, decide_eq_true_eq] at hin
    have hid : m.id = k.id := by
      by_contra hne
      rcases source_apart h hm hk hne with hlt | hlt <;> omega
    obtain rfl := packPlan_id_inj hm hk hid
    simp

theorem exists_of_relocate {plan : List PackMove} {a x : Nat} (h : relocate plan a = some x) :
    ∃ m ∈ plan, ∃ i, i < m.length ∧ a = m.base + i ∧ x = m.dest + i := by
  unfold relocate at h
  obtain ⟨m, hf, rfl⟩ := Option.map_eq_some_iff.1 h
  have hin := List.find?_some hf
  simp only [Bool.and_eq_true, decide_eq_true_eq] at hin
  exact ⟨m, List.mem_of_find?_eq_some hf, a - m.base, by omega, by omega, rfl⟩

/-- Two records never go to one place. -/
theorem relocate_inj {t : Store} (h : t.Sound) {a b x : Nat}
    (ha : relocate t.packPlan a = some x) (hb : relocate t.packPlan b = some x) : a = b := by
  obtain ⟨m, hm, i, hi, rfl, hx⟩ := exists_of_relocate ha
  obtain ⟨k, hk, j, hj, rfl, hx'⟩ := exists_of_relocate hb
  have hid : m.id = k.id := by
    by_contra hne
    have := (moved_laid h).apart (List.mem_map_of_mem hm) (List.mem_map_of_mem hk)
      fun heq => hne (show m.moved.id = k.moved.id from heq ▸ rfl)
    simp only [Apart, PackMove.moved] at this
    omega
  obtain rfl := packPlan_id_inj hm hk hid
  omega

/-- One record of the store brought to its place (the step of `Memory.relocated`). -/
def relocateStep (plan : List PackMove) (acc : Memory) (c : Nat × VectorRec) : Memory :=
  match relocate plan c.1 with
  | some a => acc.write a c.2
  | none => acc

theorem relocated_eq_foldl (m : Memory) (plan : List PackMove) :
    m.relocated plan = m.foldl (relocateStep plan) [] := rfl

theorem relocateStep_wf {plan : List PackMove} {acc : Memory} (h : acc.wf) (c : Nat × VectorRec) :
    (relocateStep plan acc c).wf := by
  unfold relocateStep
  split
  · exact Memory.write_wf h _ _
  · exact h

theorem read_relocateStep {plan : List PackMove} {acc : Memory} (h : acc.wf)
    (c : Nat × VectorRec) (x : Nat) :
    (relocateStep plan acc c).read x =
      if relocate plan c.1 = some x then c.2 else acc.read x := by
  unfold relocateStep
  split
  next a ha =>
    rw [Memory.read_write h, ha]
    simp [eq_comm]
  next ha => simp [ha]

/-- A place to which no listed record goes reads as before. -/
theorem read_foldl_relocate_other {plan : List PackMove} {x : Nat} (l acc : Memory) (h : acc.wf)
    (hl : ∀ c ∈ l, relocate plan c.1 ≠ some x) :
    (l.foldl (relocateStep plan) acc).read x = acc.read x := by
  induction l generalizing acc with
  | nil => rfl
  | cons c l ih =>
    obtain ⟨hc, hl⟩ := List.forall_mem_cons.1 hl
    rw [List.foldl_cons, ih _ (relocateStep_wf h c) hl, read_relocateStep h, if_neg hc]

/-- A place to which record `a` alone goes reads as record `a` did. -/
theorem read_foldl_relocate {plan : List PackMove} {a x : Nat} (l acc : Memory) (h : acc.wf)
    (hl : l.Pairwise fun c d => c.1 < d.1) (ha : relocate plan a = some x)
    (hinj : ∀ b, relocate plan b = some x → b = a) (hblank : acc.read x = VectorRec.blank) :
    (l.foldl (relocateStep plan) acc).read x = l.read a := by
  induction l generalizing acc with
  | nil => exact hblank
  | cons c l ih =>
    obtain ⟨hc, hl⟩ := List.pairwise_cons.1 hl
    rw [List.foldl_cons]
    by_cases hca : c.1 = a
    · have hothers : ∀ d ∈ l, relocate plan d.1 ≠ some x := fun d hd hx =>
        absurd (hinj d.1 hx) (by have := hc d hd; omega)
      rw [read_foldl_relocate_other l _ (relocateStep_wf h c) hothers, read_relocateStep h, hca,
        if_pos ha]
      simp [Memory.read, hca]
    · have hx : relocate plan c.1 ≠ some x := fun hx => hca (hinj c.1 hx)
      rw [ih _ (relocateStep_wf h c) hl (by rw [read_relocateStep h, if_neg hx]; exact hblank)]
      simp [Memory.read, Ne.symm hca]

/-- Every record of a moved extent reads in its new place as it did in its old one (R37). -/
theorem read_relocated {t : Store} (h : t.Sound) (hwf : t.vectors.wf) {m : PackMove}
    (hm : m ∈ t.packPlan) {i : Nat} (hi : i < m.length) :
    (t.vectors.relocated t.packPlan).read (m.dest + i) = t.vectors.read (m.base + i) := by
  have hx := relocate_of_mem h hm hi
  rw [relocated_eq_foldl]
  exact read_foldl_relocate _ _ Memory.wf_nil hwf.1 hx (fun b hb => relocate_inj h hb hx) rfl

/-- A pack leaves every vector of every pattern as it was (R37). -/
theorem afterPack_vector {t : Store} (h : t.Sound) (hwf : t.vectors.wf) {p : PatternId} {i : Nat}
    (hi : i < (t.content p).length) : t.afterPack.vector p i = t.vector p i := by
  rcases afterPack_content h p with ⟨n, b, d, hp, _, hm, hp'⟩ | ⟨hnone, hp'⟩
  · simp only [Store.vector, hp, hp']
    rw [hp] at hi
    exact read_relocated h hwf hm hi
  · simp only [Store.vector, hp']
    cases hp : t.content p with
    | stored n b => simp [Store.extent?, hp] at hnone
    | undefined => rfl
    | generated n g => rfl

/-! ## The records moved (R36, R37) -/

/-- A sum over a plan is the sum over all patterns of what the plan says of each, the others counting
0. -/
theorem sum_packPlan (t : Store) (g : PatternId → Nat) (h : ∀ p, t.extent? p = none → g p = 0) :
    (t.packPlan.map fun m => g m.id).sum = ((List.finRange 32).map g).sum := by
  have hsource : (t.packPlan.map fun m => g m.id) = t.extents.map fun e => g e.id := by
    rw [← packPlan_sources t, List.map_map]
    rfl
  rw [hsource, sum_extents]
  refine congrArg List.sum (List.map_congr_left fun p _ => ?_)
  cases he : t.extent? p with
  | none => simp [h p he]
  | some e => simp [(extent?_eq_some.1 he).2.1]

/-- The records a pack moves are those of the patterns whose base it changes (R37). -/
theorem movedRecords_eq (t : Store) :
    movedRecords t.packPlan = ((List.finRange 32).map fun p : PatternId =>
      if (t.afterPack.content p).base ≠ (t.content p).base then (t.content p).records else 0).sum := by
  rw [← sum_packPlan]
  · have hfilter : ∀ l : List PackMove, (∀ m ∈ l, m ∈ t.packPlan) → movedRecords l =
        (l.map fun m => if (t.afterPack.content m.id).base ≠ (t.content m.id).base then
          (t.content m.id).records else 0).sum := by
      intro l hl
      induction l with
      | nil => rfl
      | cons m l ih =>
        obtain ⟨hm, hl⟩ := List.forall_mem_cons.1 hl
        have hc := content_of_mem_packPlan hm
        have hc' : t.afterPack.content m.id = .stored m.length m.dest :=
          congrArg DirEntry.content (foldl_rebase_moved _ t hm (packPlan_ids t))
        have ih := ih hl
        simp only [movedRecords] at ih
        by_cases hd : m.dest = m.base <;>
          simp [movedRecords, hc, hc', Content.base, Content.records, hd, ih]
    exact hfilter _ fun _ hm => hm
  · intro p hp
    cases hc : t.content p with
    | stored n b => simp [Store.extent?, hc] at hp
    | undefined => simp [Content.records]
    | generated n g => simp [Content.records]

end Sys2Proof.Machine
end

section
/-! SUPPORT. PACK_STORE and PACK_COMPLETE carried out (R36, R37). -/

namespace Sys2Proof.Machine

open Safety

/-- A pack that completes: the packed store, and the reply with the records moved and the two
figures, which are equal (R36). -/
theorem completePack_eq {s : State} (h : s.store.Sound) (f : LinkFrame) :
    completePack f s.store.packPlan s =
      { s with
        store := s.store.afterPack
        link := s.link.answer f
          ⟨.ok, bytes2 (movedRecords s.store.packPlan) ++ bytes2 s.store.afterPack.freeCount
            ++ bytes2 s.store.afterPack.freeCount⟩ } := by
  have hfigures : packResults s.store.packPlan s.store.afterPack =
      bytes2 (movedRecords s.store.packPlan) ++ bytes2 s.store.afterPack.freeCount
        ++ bytes2 s.store.afterPack.freeCount := by
    rw [packResults, Store.figures, afterPack_largestFree h, List.append_assoc]
  rw [← hfigures]
  rfl

theorem packStore_idle {s : State} {f : LinkFrame} (hp : f.payload = [])
    (hm : s.engine.mode = .idle) :
    packStore f s =
      if movedRecords s.store.packPlan = 0 then completePack f s.store.packPlan s
      else s.withStore
        { s.store with pack := some ⟨s.store.packPlan, 4 * movedRecords s.store.packPlan⟩ } := by
  simp [packStore, hp, hm, Config.packTicksPerRecord]

/-- What a pack keeps of an entry: its generation, and all of its content but a lower base. -/
theorem afterPack_entry {t : Store} (h : t.Sound) (p : PatternId) :
    t.afterPack.directory[p].generation = t.directory[p].generation ∧
      (t.afterPack.content p).base ≤ (t.content p).base := by
  cases hp : t.content p with
  | stored n b =>
    obtain ⟨d, hd, _, hdir⟩ := afterPack_stored h hp
    exact ⟨by rw [hdir], by rw [Store.content, hdir]; exact hd⟩
  | undefined =>
    have hdir := afterPack_unstored (t := t) (p := p) (by simp [Store.extent?, hp])
    exact ⟨by rw [hdir], by rw [Store.content, hdir, ← Store.content, hp]⟩
  | generated n g =>
    have hdir := afterPack_unstored (t := t) (p := p) (by simp [Store.extent?, hp])
    exact ⟨by rw [hdir], by rw [Store.content, hdir, ← Store.content, hp]⟩

/-- Settles O24: a pack's plan is the store's by `PackLaw`, so both rows leave the packed store, of
which the lemmas on `Store.afterPack` say all that is claimed. -/
theorem packKeepsEveryPattern : Obligations.PackKeepsEveryPattern := by
  unfold Obligations.PackKeepsEveryPattern
  intro s hs moved packed
  have h : s.store.Sound := ⟨hs.directory, hs.extentsApart⟩
  have hmoved : movedRecords s.store.packPlan = moved s.store.afterPack :=
    movedRecords_eq s.store
  have hpacked : ∀ f, packed f (completePack f s.store.packPlan s) := by
    intro f
    rw [completePack_eq h, hmoved]
    refine ⟨rfl, Memory.relocated_wf _ _, fun p => ?_, fun p i => afterPack_vector h hs.storeCanonical,
      afterPack_freeCount h, afterPack_free h⟩
    obtain ⟨hgen, hbase⟩ := afterPack_entry h p
    refine ⟨hgen, hbase, ?_⟩
    rcases afterPack_content h p with ⟨n, b, d, hp, _, _, hp'⟩ | ⟨hnone, hp'⟩
    · rw [hp, hp']
      rfl
    · cases hp : s.store.content p with
      | stored n b => simp [Store.extent?, hp] at hnone
      | undefined => exact hp'.trans hp
      | generated n g => exact hp'.trans hp
  refine ⟨fun r hr hserving hidle => ?_, hmoved, fun k f rest hk hq => ?_, fun hnone => ?_⟩
  · have hexec : exec (.packStore r) s = .next (packStore (r.frame Kind.packStore) s) :=
      congrArg Host.Outcome.next (serveFrame_serving hserving _)
    rw [hexec, packStore_idle hr hidle]
    refine ⟨fun hzero => ⟨_, rfl, ?_⟩, fun hpos => ?_⟩
    · rw [if_pos hzero]
      exact hpacked _
    · rw [if_neg (Nat.ne_of_gt hpos)]
      rfl
  · obtain ⟨_, hplan, _⟩ := hs.pack k hk
    refine ⟨_, ?_, hpacked f⟩
    simp only [exec, execPackComplete, hk, hq, hplan]
  · simp only [exec, execPackComplete, hnone]

end Sys2Proof.Machine
end

section
/-! SUPPORT. The laws of the device regrouped for the proof that every step keeps them: those of one
block alone, those of a run by its phase, and the equivalence of the groups with `Lawful`. -/

namespace Sys2Proof.Machine

open Safety

/-! ## The laws of one block -/

/-- The link's own laws (R169, R170, R172, R173). -/
structure Link.Sound (l : Link) : Prop where
  admitted : l.requests.length ≤ 4
  reserved : l.outbound.length + l.requests.length ≤ 16
  notices  : l.notices ≤ 12
  kinds    : ∀ f ∈ l.requests, isRequestKind f.kind = true
  mask     : l.noticeMask &&& 0xFE01 = 0x0001
  framer   : framerInForm l.framer = true

/-- The rotations: the active one is playable or has no slots, the pending one is playable while a
swap waits (R57, R66), and the slot fields lie in their ranges (R56). -/
structure RotationUnit.Sound (t : Store) (u : RotationUnit) : Prop where
  active  : u.active.count = 0 ∨ Playable t u.active
  waiting : u.swapWaiting = true → Playable t u.pendingRot
  count   : u.pendingRot.count ≤ 16
  dwells  : ∀ i : SlotIndex, u.active.slots[i].dwell ≤ 255 ∧ u.pendingRot.slots[i].dwell ≤ 255

/-- The trigger presets name defined patterns and have skips in range (R57, R161). -/
structure Trigger.Sound (t : Store) (g : Trigger) : Prop where
  names : ∀ p : PatternId, g.names p = true → (t.content p).isDefined = true
  skipA : ∀ x ∈ presetOf g.trgA.action, x.skip ≤ 255
  skipB : ∀ x ∈ presetOf g.trgB.action, x.skip ≤ 255

/-- The checker's log, counts and settings lie in their ranges (R128, R134). -/
structure Checker.Sound (c : Checker) : Prop where
  log       : c.failLog.length ≤ 64
  counts    : ∀ n : Lane, c.mismatchCounts[n] ≤ 255 ∧ c.faultCounts[n] ≤ 15
  failing   : c.failingSteps ≤ 65535
  threshold : 1 ≤ c.faultThreshold ∧ c.faultThreshold ≤ 15
  limit     : 1 ≤ c.quarantineLimit ∧ c.quarantineLimit ≤ 24

/-- A snapshot is formed and its fields lie in their ranges (R116). -/
structure Snapshot.Sound (x : Snapshot) : Prop where
  formed  : SnapshotFormed x
  failing : x.failingSteps ≤ 65535
  options : OptionsInRange x.options

/-- The engine's fields that no run moves: the options and the snapshots. -/
structure Engine.Sound (e : Engine) : Prop where
  options   : OptionsInRange e.options
  snapshots : ∀ n : SnapshotId, e.snapshots[n].Sound

/-- Every block but the link keeps its own laws. -/
structure Grounded (s : State) : Prop where
  store    : s.store.Sound
  rotation : s.rotation.Sound s.store
  trigger  : s.trigger.Sound s.store
  checker  : s.checker.Sound
  engine   : s.engine.Sound

/-- The number of quarantined lanes is below the limit (R137). -/
def Checker.Below (c : Checker) : Prop := c.quarantinedCount < c.quarantineLimit

/-! ## The laws of a run, by its phase -/

/-- A frame names a defined pattern and stands at a position of its pass (R57, R80). -/
def FrameSound (s : State) (f : RunFrame) : Prop :=
  (s.store.content f.pattern).isDefined = true ∧ framePlaced s f = true

/-- A live frame over its context stack: sound frames, the bottom one BASE, every other SPLICE, the
saved skips in range (R80). -/
def Tower (s : State) (f : RunFrame) : List SavedFrame → Prop
  | [] => FrameSound s f ∧ f.base.isSome = true
  | g :: rest => FrameSound s f ∧ f.base = none ∧ g.skip ≤ 255 ∧ Tower s g.frame rest

/-- A rotation run is live, over a playable rotation, and a pending splice names a defined pattern,
its skip in range (R57, R102). -/
structure RotationRun (s : State) : Prop where
  isLive   : s.engine.mode.isLive = true
  kind     : s.engine.runKind = .rotation
  position : s.survey.position = none
  playable : Playable s.store s.rotation.active
  splice   : ∀ x ∈ s.engine.pendingSplice,
    (s.store.content x.pattern).isDefined = true ∧ x.skip ≤ 255

/-- The frames of a live rotation run, with room for the pending splice (R80, R106). -/
structure Framed (s : State) : Prop extends RotationRun s where
  tower : ∃ f, s.engine.live = some f ∧ Tower s f s.engine.stack
  room  : s.engine.stack.length + (if s.engine.pendingSplice.isSome then 1 else 0) ≤ 4

/-- The pacer, the wait timer and the kept record of a live rotation run (R48, R49, R53, R85). -/
structure Paced (s : State) : Prop where
  pacer  : s.timing.pacer.isSome = true ↔ s.engine.mode = .running ∨ s.engine.mode = .held .running
  wait   : s.timing.waitTimer.running = true →
    s.engine.mode = .waiting ∨ s.engine.mode = .held .waiting
  record : s.engine.stepRecord.isSome = true ↔ s.engine.mode ≠ .held .boundary

/-- What no frame, pending splice, kept record, running wait or waiting swap stands in: every state
outside a live rotation run. -/
structure Frameless (s : State) : Prop where
  live   : s.engine.live = none
  stack  : s.engine.stack = []
  splice : s.engine.pendingSplice = none
  record : s.engine.stepRecord = none
  wait   : s.timing.waitTimer.running = false
  swap   : s.rotation.swapWaiting = false

/-- No run is live. -/
structure Resting (s : State) : Prop extends Frameless s where
  notLive  : s.engine.mode.isLive = false
  pacer    : s.timing.pacer = none
  position : s.survey.position = none
  armed    : s.engine.mode = .armed → Playable s.store s.rotation.active

/-- A survey is live (R147, R155). -/
structure Surveying (s : State) : Prop extends Frameless s where
  kind     : s.engine.runKind = .survey
  mode     : s.engine.mode = .running ∨ s.engine.mode = .held .running
  pacer    : s.timing.pacer.isSome = true
  position : s.survey.position.any (hasLane s.survey.participants) = true

/-- The part is in one of the three phases. -/
def RunPhase (s : State) : Prop := Resting s ∨ (Framed s ∧ Paced s) ∨ Surveying s

/-- All laws but the three that `KeepsForm` speaks of. -/
structure Core (s : State) : Prop extends Grounded s where
  link    : s.link.Sound
  below   : s.engine.mode ≠ .lockout → s.checker.Below
  phase   : RunPhase s
  pack    : PackLaw s
  startUp : StartUpLaw s

/-! ## The frames as a list -/

theorem baseThenSplices_append (l : List SavedFrame) (g : SavedFrame) :
    baseThenSplices (l ++ [g]) = true ↔
      if l = [] then g.frame.base.isSome = true
      else baseThenSplices l = true ∧ g.frame.base = none := by
  cases l with
  | nil => simp [baseThenSplices]
  | cons f l => simp [baseThenSplices, and_assoc]

/-- The tower read base first (R80). -/
theorem tower_iff {s : State} {f : RunFrame} {stack : List SavedFrame} :
    Tower s f stack ↔
      baseThenSplices (stack.reverse ++ [⟨f, 0⟩]) = true ∧
        (∀ g ∈ stack.reverse ++ [⟨f, 0⟩], FrameSound s g.frame) ∧ ∀ g ∈ stack, g.skip ≤ 255 := by
  induction stack generalizing f with
  | nil => simp [Tower, baseThenSplices, and_comm]
  | cons g rest ih =>
    have hform : baseThenSplices (rest.reverse ++ [g]) = true ↔
        baseThenSplices (rest.reverse ++ [⟨g.frame, 0⟩]) = true := by
      simp only [baseThenSplices_append]
    rw [Tower, ih, List.reverse_cons, baseThenSplices_append (rest.reverse ++ [g]),
      if_neg (by simp), hform]
    simp only [List.mem_append, List.mem_cons, or_imp, forall_and, forall_eq]
    tauto

theorem frames_of_live {e : Engine} {f : RunFrame} (h : e.live = some f) :
    e.frames = e.stack.reverse ++ [⟨f, 0⟩] := by
  simp [Engine.frames, h]

theorem frames_of_none {e : Engine} (h : e.live = none) : e.frames = [] := by
  simp [Engine.frames, h]

/-- A frame of the live rotation run, live or saved, is sound. -/
theorem Framed.frames {s : State} (h : Framed s) :
    baseThenSplices s.engine.frames = true ∧ (∀ g ∈ s.engine.frames, FrameSound s g.frame) ∧
      ∀ g ∈ s.engine.stack, g.skip ≤ 255 := by
  obtain ⟨f, hf, htower⟩ := h.tower
  rw [frames_of_live hf]
  exact tower_iff.1 htower

theorem Framed.rotationLive {s : State} (h : Framed s) : s.engine.rotationLive = true := by
  simp [Engine.rotationLive, h.isLive, h.kind]

theorem Framed.surveyLive {s : State} (h : Framed s) : s.engine.surveyLive = false := by
  simp [Engine.surveyLive, h.kind]

/-! ## From the laws to the groups -/

/-- What a lawful state without a live rotation run holds none of. -/
theorem frameless_of_lawful {s : State} (h : Lawful s) (hr : s.engine.rotationLive = false)
    (hw : s.engine.mode ≠ .waiting ∧ s.engine.mode ≠ .held .waiting) : Frameless s := by
  obtain ⟨hlive, hstack, hsplice⟩ := h.stack.1.1 hr
  obtain ⟨_, hwait, hrecord⟩ := h.pace
  refine ⟨hlive, hstack, hsplice, ?_, ?_, ?_⟩
  · simpa [hr] using hrecord
  · by_contra hrun
    rcases hwait (by simpa using hrun) with hm | hm
    · exact hw.1 hm
    · exact hw.2 hm
  · by_contra hswap
    exact absurd (h.swap (by simpa using hswap)) (by simp [hr])

theorem resting_of_lawful {s : State} (h : Lawful s) (hl : s.engine.mode.isLive = false) :
    Resting s := by
  have hr : s.engine.rotationLive = false := by simp [Engine.rotationLive, hl]
  have hne : ∀ m : EngineState, m.isLive = true → s.engine.mode ≠ m := by
    intro m hm heq
    rw [heq, hm] at hl
    cases hl
  have hpacer := h.pace.1
  exact
    { frameless_of_lawful h hr ⟨hne _ rfl, hne _ rfl⟩ with
      notLive := hl
      pacer := by simpa [hne .running rfl, hne (.held .running) rfl] using hpacer
      position := h.survey.2.2 (by simp [Engine.surveyLive, hl])
      armed := fun harmed => h.references.2.1 (Or.inl harmed) }

theorem framed_of_lawful {s : State} (h : Lawful s) (hl : s.engine.mode.isLive = true)
    (hk : s.engine.runKind = .rotation) : Framed s := by
  have hr : s.engine.rotationLive = true := by simp [Engine.rotationLive, hl, hk]
  obtain ⟨⟨_, hlive, hroom⟩, hform, _⟩ := h.stack
  obtain ⟨_, hplay, _, _, hframes, hsplice, _⟩ := h.references
  obtain ⟨_, hskips, hskip, _⟩ := h.ranges
  obtain ⟨f, hf⟩ := Option.isSome_iff_exists.1 (hlive hr)
  have hsound : ∀ g ∈ s.engine.frames, FrameSound s g.frame := fun g hg =>
    ⟨hframes g hg, h.positions g hg⟩
  rw [frames_of_live hf] at hform hsound
  exact
    { isLive := hl
      kind := hk
      position := h.survey.2.2 (by simp [Engine.surveyLive, hk])
      playable := hplay (Or.inr hr)
      tower := ⟨f, hf, tower_iff.2 ⟨hform, hsound, hskips⟩⟩
      room := hroom
      splice := fun x hx => ⟨hsplice x hx, hskip x hx⟩ }

theorem paced_of_lawful {s : State} (h : Lawful s) (hr : s.engine.rotationLive = true) :
    Paced s := by
  obtain ⟨hpacer, hwait, hrecord⟩ := h.pace
  exact ⟨hpacer, hwait, by simpa [hr] using hrecord⟩

theorem surveying_of_lawful {s : State} (h : Lawful s) (hl : s.engine.mode.isLive = true)
    (hk : s.engine.runKind = .survey) : Surveying s := by
  obtain ⟨hmode, hposition⟩ := h.survey.2.1 (by simp [Engine.surveyLive, hl, hk])
  have hwait : s.engine.mode ≠ .waiting ∧ s.engine.mode ≠ .held .waiting := by
    rcases hmode with hm | hm <;> simp [hm]
  exact
    { frameless_of_lawful h (by simp [Engine.rotationLive, hk]) hwait with
      kind := hk
      mode := hmode
      pacer := h.pace.1.2 hmode
      position := hposition }

theorem runPhase_of_lawful {s : State} (h : Lawful s) : RunPhase s := by
  by_cases hl : s.engine.mode.isLive = true
  · have hkind := h.survey.1 hl
    cases hk : s.engine.runKind with
    | rotation =>
      have hf := framed_of_lawful h hl hk
      exact Or.inr (Or.inl ⟨hf, paced_of_lawful h hf.rotationLive⟩)
    | survey => exact Or.inr (Or.inr (surveying_of_lawful h hl hk))
    | none => exact absurd hk hkind
  · exact Or.inl (resting_of_lawful h (by simpa using hl))

theorem core_of_lawful {s : State} (h : Lawful s) : Core s := by
  obtain ⟨hactive, _, hwaiting, hcount, _, _, hnames⟩ := h.references
  obtain ⟨hdwells, _, _, hskipA, hskipB, hoptions, hsnapOptions, hthr1, hthr2, hlim1, hlim2⟩ :=
    h.ranges
  obtain ⟨hcounts, hfailing, hsnapFailing⟩ := h.counts
  obtain ⟨hadmitted, hreserved, hnotices, hkinds⟩ := h.queue
  exact
    { store := ⟨h.directory, h.extentsApart⟩
      rotation := ⟨hactive, hwaiting, hcount, hdwells⟩
      trigger := ⟨hnames, hskipA, hskipB⟩
      checker := ⟨h.log, hcounts, hfailing, ⟨hthr1, hthr2⟩, hlim1, hlim2⟩
      engine := ⟨hoptions, fun n => ⟨h.stack.2.2 n, hsnapFailing n, hsnapOptions n⟩⟩
      link := ⟨hadmitted, hreserved, hnotices, hkinds, h.mask, h.framer⟩
      below := h.quarantine.2
      phase := runPhase_of_lawful h
      pack := h.pack
      startUp := h.startUp }

/-! ## From the groups to the laws -/

/-- The laws that speak of a run, in each of its phases. -/
structure RunLaws (s : State) : Prop where
  pace      : PaceLaw s
  swap      : SwapLaw s
  survey    : SurveyLaw s
  held      : FramesHeld s.engine
  form      : baseThenSplices s.engine.frames = true
  playable  : s.engine.mode = .armed ∨ s.engine.rotationLive = true →
    Playable s.store s.rotation.active
  frames    : ∀ g ∈ s.engine.frames, FrameSound s g.frame
  skips     : ∀ g ∈ s.engine.stack, g.skip ≤ 255
  splice    : ∀ x ∈ s.engine.pendingSplice,
    (s.store.content x.pattern).isDefined = true ∧ x.skip ≤ 255

/-- Without frames, the laws of the frames hold of themselves. -/
theorem runLaws_of_frameless {s : State} (h : Frameless s) (hr : s.engine.rotationLive = false)
    (pacer : s.timing.pacer.isSome = true ↔
      s.engine.mode = .running ∨ s.engine.mode = .held .running)
    (survey : SurveyLaw s) (armed : s.engine.mode = .armed → Playable s.store s.rotation.active) :
    RunLaws s := by
  have hframes : s.engine.frames = [] := frames_of_none h.live
  exact
    { pace := ⟨pacer, by simp [h.wait], by simp [h.record, hr]⟩
      swap := by simp [SwapLaw, h.swap]
      survey := survey
      held := by simp [FramesHeld, h.live, h.stack, h.splice, hr]
      form := by simp [hframes, baseThenSplices]
      playable := by simpa [hr] using armed
      frames := by simp [hframes]
      skips := by simp [h.stack]
      splice := by simp [h.splice] }

theorem Resting.runLaws {s : State} (h : Resting s) : RunLaws s := by
  have hne : ∀ m : EngineState, m.isLive = true → s.engine.mode ≠ m := by
    intro m hm heq
    have := h.notLive
    rw [heq, hm] at this
    cases this
  refine runLaws_of_frameless h.toFrameless ?_ ?_ ?_ h.armed
  · simp [Engine.rotationLive, h.notLive]
  · simp [h.pacer, hne .running rfl, hne (.held .running) rfl]
  · simp [SurveyLaw, Engine.surveyLive, h.notLive, h.position]

theorem Surveying.isLive {s : State} (h : Surveying s) : s.engine.mode.isLive = true := by
  rcases h.mode with hm | hm <;> rw [hm] <;> rfl

theorem Surveying.rotationLive {s : State} (h : Surveying s) : s.engine.rotationLive = false := by
  simp [Engine.rotationLive, h.kind]

theorem Surveying.runLaws {s : State} (h : Surveying s) : RunLaws s := by
  refine runLaws_of_frameless h.toFrameless h.rotationLive ?_ ?_ fun harmed => ?_
  · simp [h.pacer, h.mode]
  · simp [SurveyLaw, Engine.surveyLive, h.isLive, h.kind, h.mode, h.position]
  · have := h.isLive
    rw [harmed] at this
    cases this

theorem runLaws_of_framed {s : State} (h : Framed s) (hp : Paced s) : RunLaws s := by
  obtain ⟨hform, hframes, hskips⟩ := h.frames
  obtain ⟨f, hf, _⟩ := h.tower
  exact
    { pace := ⟨hp.pacer, hp.wait, by simpa [h.rotationLive] using hp.record⟩
      swap := fun _ => h.rotationLive
      survey := by simp [SurveyLaw, h.surveyLive, h.kind, h.position]
      held := ⟨by simp [h.rotationLive], by simp [hf], h.room⟩
      form := hform
      playable := fun _ => h.playable
      frames := hframes
      skips := hskips
      splice := h.splice }

theorem runLaws_of_runPhase {s : State} (h : RunPhase s) : RunLaws s := by
  rcases h with h | ⟨h, hp⟩ | h
  · exact h.runLaws
  · exact runLaws_of_framed h hp
  · exact h.runLaws

theorem lawful_of_core {s : State} (h : Core s) (hv : StoreCanonical s) (hf : FollowLaw s)
    (ht : TimingLaw s) : Lawful s := by
  have hrun := runLaws_of_runPhase h.phase
  exact
    { storeCanonical := hv
      directory := h.store.inRange
      extentsApart := h.store.apart
      pack := h.pack
      timing := ht
      pace := hrun.pace
      follow := hf
      swap := hrun.swap
      survey := hrun.survey
      stack := ⟨hrun.held, hrun.form, fun n => (h.engine.snapshots n).formed⟩
      quarantine := ⟨h.checker.limit.1, h.below⟩
      log := h.checker.log
      counts := ⟨h.checker.counts, h.checker.failing, fun n => (h.engine.snapshots n).failing⟩
      queue := ⟨h.link.admitted, h.link.reserved, h.link.notices, h.link.kinds⟩
      startUp := h.startUp
      mask := h.link.mask
      framer := h.link.framer
      references := ⟨h.rotation.active, hrun.playable, h.rotation.waiting, h.rotation.count,
        fun g hg => (hrun.frames g hg).1, fun x hx => (hrun.splice x hx).1, h.trigger.names⟩
      positions := fun g hg => (hrun.frames g hg).2
      ranges := ⟨h.rotation.dwells, hrun.skips, fun x hx => (hrun.splice x hx).2, h.trigger.skipA,
        h.trigger.skipB, h.engine.options, fun n => (h.engine.snapshots n).options,
        h.checker.threshold.1, h.checker.threshold.2, h.checker.limit.1, h.checker.limit.2⟩ }

end Sys2Proof.Machine
end

section
/-! SUPPORT. The link's own laws under everything that touches the link (R168 to R173), and the two
conditions in which the part works: the laws outside the run, and all of them. -/

namespace Sys2Proof.Machine

open Safety

/-! ## The link's laws (R169 to R173) -/

theorem place_sound {l : Link} (h : l.Sound) {f : LinkFrame} (hfree : 1 ≤ l.freeEntries)
    (hn : f.isNotice = true → l.notices < 12) : (l.place f).Sound where
  admitted := h.admitted
  reserved := by
    simp only [Link.freeEntries, Link.reserved, Config.outboundEntries] at hfree
    simp only [Link.place, List.length_append, List.length_singleton]
    omega
  notices := by
    have hle := h.notices
    simp only [Link.notices] at hle hn
    simp only [Link.notices, Link.place, List.filter_append, List.length_append]
    cases hf : f.isNotice with
    | true => simpa [hf] using hn hf
    | false => simpa [hf] using hle
  kinds := h.kinds
  mask := h.mask
  framer := h.framer

theorem notice_sound {l : Link} (h : l.Sound) (k : NoticeKind) (p : List Byte) :
    (l.notice k p).Sound := by
  rcases l.notice_cases k p with e | ⟨hcap, hfree, e⟩ | e <;> rw [e]
  · exact h
  · exact place_sound h hfree fun _ => hcap
  · exact { h with }

/-- A reply to a request is no notice (R168). -/
theorem reply_isNotice {f : LinkFrame} (h : isRequestKind f.kind = true) (st : Status)
    (results : List Byte) : (f.reply st results).isNotice = false := by
  have hk : f.kind.toNat < 0x60 := by simpa [isRequestKind] using h
  have hadd : (f.kind + 0x80).toNat = f.kind.toNat + 0x80 := by
    rw [BitVec.toNat_add]
    exact Nat.mod_eq_of_lt (show f.kind.toNat + 128 < 256 by omega)
  simp only [LinkFrame.isNotice, LinkFrame.reply, hadd, decide_eq_false_iff_not]
  omega

theorem answer_sound {l : Link} (h : l.Sound) {f : LinkFrame} {rest : List LinkFrame}
    (hq : l.requests = f :: rest) (r : Reply) : (l.answer f r).Sound where
  admitted := by
    have := h.admitted
    simp only [Link.answer_requests, List.length_tail]
    omega
  reserved := by
    have := h.reserved
    simp only [hq, List.length_cons] at this
    simp only [Link.answer_requests, Link.answer_outbound, hq, List.tail_cons, List.length_append,
      List.length_singleton]
    omega
  notices := by
    have hno := reply_isNotice (h.kinds f (by simp [hq])) r.status r.results
    have := h.notices
    simpa [Link.notices, Link.answer_outbound, List.filter_append, hno] using this
  kinds g hg := h.kinds g (List.mem_of_mem_tail hg)
  mask := h.mask
  framer := h.framer

theorem discard_sound {l : Link} (h : l.Sound) : l.discard.Sound := { h with framer := rfl }

theorem admission_sound {l : Link} (h : l.Sound) (f : LinkFrame) : (l.admission f).Sound := by
  unfold Link.admission
  split
  · exact { h with }
  next hk =>
    have hk : isRequestKind f.kind = true := by simpa using hk
    split
    next hroom =>
      simp only [Bool.and_eq_true, decide_eq_true_eq] at hroom
      simp only [Link.freeEntries, Link.reserved, Config.requestEntries,
        Config.outboundEntries] at hroom
      refine { h with admitted := ?_, reserved := ?_, kinds := fun g hg => ?_ }
      · simp only [List.length_append, List.length_singleton]
        omega
      · simp only [List.length_append, List.length_singleton]
        omega
      · rcases List.mem_append.1 hg with hg | hg
        · exact h.kinds g hg
        · rw [List.mem_singleton.1 hg]
          exact hk
    · split
      next hfree =>
        exact place_sound h hfree fun hn => by rw [reply_isNotice hk] at hn; cases hn
      · exact { h with }

theorem completeFrame_sound {l : Link} (h : l.Sound) (f : LinkFrame) :
    (l.completeFrame f).Sound := by
  unfold Link.completeFrame
  split
  · exact admission_sound (l := { l with framer := .hunting }) { h with framer := rfl } f
  · exact discard_sound h

theorem character_sound {l : Link} (h : l.Sound) (b : Byte) (stopBit : Bool) :
    (l.character b stopBit).Sound := by
  unfold Link.character
  split
  · split
    · exact { h with framer := rfl }
    · exact h
  next bytes _ _ =>
    split
    · unfold Link.takeBytes
      split
      · exact discard_sound h
      next hlen =>
        split
        next hmore =>
          refine { h with framer := ?_ }
          simp only [framerInForm, Bool.and_eq_true, decide_eq_true_eq]
          exact ⟨by omega, hmore⟩
        · split
          · exact completeFrame_sound h _
          · exact discard_sound h
    · exact discard_sound h

theorem link_tick_sound {l : Link} (h : l.Sound) : l.tick.Sound := by
  refine { h with framer := ?_ }
  have hf := h.framer
  cases hl : l.framer with
  | hunting => simp [Link.tick, hl, Framer.tick, framerInForm]
  | inFrame bytes gap =>
    rw [hl] at hf
    simpa [Link.tick, hl, Framer.tick, framerInForm] using hf

theorem sent_sound {l : Link} (h : l.Sound) :
    ({ l with outbound := l.outbound.tail } : Link).Sound := by
  refine { h with reserved := ?_, notices := ?_ }
  · have := h.reserved
    simp only [List.length_tail]
    omega
  · have hsub : (l.outbound.tail.filter LinkFrame.isNotice).Sublist
        (l.outbound.filter LinkFrame.isNotice) := (List.tail_sublist _).filter _
    exact Nat.le_trans hsub.length_le h.notices

/-- A frame's completion leaves the oldest request and the power as they are. -/
theorem completeFrame_keeps (l : Link) (f : LinkFrame) :
    (l.completeFrame f).power = l.power ∧
      ((l.completeFrame f).requests = l.requests ∨
        (l.completeFrame f).requests = l.requests ++ [f]) := by
  unfold Link.completeFrame Link.admission Link.discard Link.place
  repeat' split
  all_goals simp

theorem character_keeps (l : Link) (b : Byte) (stopBit : Bool) :
    (l.character b stopBit).power = l.power ∧
      ((l.character b stopBit).requests = l.requests ∨
        ∃ f, (l.character b stopBit).requests = l.requests ++ [f]) := by
  have hsame : ∀ {l' : Link}, l'.power = l.power → l'.requests = l.requests →
      l'.power = l.power ∧ (l'.requests = l.requests ∨ ∃ f, l'.requests = l.requests ++ [f]) :=
    fun hp hr => ⟨hp, Or.inl hr⟩
  unfold Link.character
  split
  · split
    · exact hsame rfl rfl
    · exact hsame rfl rfl
  · split
    · unfold Link.takeBytes
      split
      · exact hsame rfl rfl
      · split
        · exact hsame rfl rfl
        · split
          · obtain ⟨hpower, hreq⟩ := completeFrame_keeps l (frameOf _)
            exact ⟨hpower, hreq.imp_right fun h => ⟨_, h⟩⟩
          · exact hsame rfl rfl
    · exact hsame rfl rfl

/-! ## The part at work -/

/-- The link takes bytes and events, its laws hold, and the requests that wait are `q`. -/
structure Link.Open (q : List LinkFrame) (l : Link) : Prop extends l.Sound where
  power : l.power = .operating
  queue : l.requests = q

/-- The part operates, no pack is in progress, and every law outside the run holds. -/
structure Steady (q : List LinkFrame) (s : State) : Prop extends Grounded s where
  link     : s.link.Open q
  unpacked : s.store.pack = none

/-- The part operates, no pack is in progress, and every law holds. -/
structure Working (q : List LinkFrame) (s : State) : Prop extends Steady q s where
  below : s.engine.mode ≠ .lockout → s.checker.Below
  phase : RunPhase s

theorem Link.Open.notice {q : List LinkFrame} {l : Link} (h : l.Open q) (k : NoticeKind)
    (p : List Byte) : (l.notice k p).Open q :=
  ⟨notice_sound h.toSound k p, by rw [Link.notice_power, h.power],
    by rw [Link.notice_requests, h.queue]⟩

theorem operating_iff (s : State) : s.operating = true ↔ s.link.power = .operating := by
  simp [State.operating]

theorem Working.core {q : List LinkFrame} {s : State} (h : Working q s) : Core s :=
  { h.toGrounded with
    link := h.link.toSound
    below := h.below
    phase := h.phase
    pack := fun k hk => by rw [h.unpacked] at hk; cases hk
    startUp := fun ho => by rw [(operating_iff s).2 h.link.power] at ho; cases ho }

theorem Core.working {s : State} (h : Core s) (ho : s.operating = true) (hp : s.store.pack = none) :
    Working s.link.requests s :=
  { h.toGrounded with
    link := ⟨h.link, (operating_iff s).1 ho, rfl⟩
    unpacked := hp
    below := h.below
    phase := h.phase }

/-- Outside IDLE the part operates and no pack is in progress (R36, R176). -/
theorem Core.working_of_ne_idle {s : State} (h : Core s) (hm : s.engine.mode ≠ .idle) :
    Working s.link.requests s := by
  refine h.working ?_ ?_
  · by_contra ho
    exact hm (h.startUp (by simpa using ho)).2.2
  · by_contra hp
    obtain ⟨k, hk⟩ := Option.ne_none_iff_exists'.1 hp
    exact hm (h.pack k hk).1

/-- A request in service is worked out in a working state. -/
theorem Core.working_of_serving {s : State} (h : Core s) {f : LinkFrame} (hs : Serving s f) :
    ∃ rest, Working (f :: rest) s := by
  obtain ⟨rest, hq⟩ := List.head?_eq_some_iff.1 hs.oldest
  exact ⟨rest, hq ▸ h.working hs.operating hs.free⟩

/-! ## States that differ in nothing a run holds -/

/-- `t` has the run of `s`: the same patterns and active rotation, the same frames and engine state,
the same pacer, wait and survey position. -/
structure SameRun (s t : State) : Prop where
  store        : t.store = s.store
  active       : t.rotation.active = s.rotation.active
  swap         : t.rotation.swapWaiting = s.rotation.swapWaiting
  pacer        : t.timing.pacer = s.timing.pacer
  wait         : t.timing.waitTimer = s.timing.waitTimer
  participants : t.survey.participants = s.survey.participants
  position     : t.survey.position = s.survey.position
  mode         : t.engine.mode = s.engine.mode
  kind         : t.engine.runKind = s.engine.runKind
  live         : t.engine.live = s.engine.live
  stack        : t.engine.stack = s.engine.stack
  splice       : t.engine.pendingSplice = s.engine.pendingSplice
  record       : t.engine.stepRecord = s.engine.stepRecord

/-- `t` has the patterns and the active rotation that the frames of `s` stand on. -/
structure SameGround (s t : State) : Prop where
  store  : t.store = s.store
  active : t.rotation.active = s.rotation.active

theorem FrameSound.congr {s t : State} {f : RunFrame} (h : FrameSound s f) (hst : SameGround s t) :
    FrameSound t f := by
  simpa only [FrameSound, framePlaced, State.directionOf, State.lengthOf, hst.store, hst.active]
    using h

theorem Tower.congr {s t : State} {f : RunFrame} {stack : List SavedFrame} (h : Tower s f stack)
    (hst : SameGround s t) : Tower t f stack := by
  induction stack generalizing f with
  | nil =>
    obtain ⟨hf, hbase⟩ := h
    exact ⟨hf.congr hst, hbase⟩
  | cons g rest ih =>
    obtain ⟨hf, hbase, hskip, hrest⟩ := h
    exact ⟨hf.congr hst, hbase, hskip, ih hrest⟩

theorem Framed.congr {s t : State} (h : Framed s) (hst : SameRun s t) : Framed t where
  isLive := hst.mode ▸ h.isLive
  kind := hst.kind ▸ h.kind
  position := hst.position ▸ h.position
  playable := by rw [hst.store, hst.active]; exact h.playable
  tower := by
    obtain ⟨f, hf, htower⟩ := h.tower
    exact ⟨f, hst.live ▸ hf, hst.stack ▸ htower.congr ⟨hst.store, hst.active⟩⟩
  room := by rw [hst.stack, hst.splice]; exact h.room
  splice := by rw [hst.splice, hst.store]; exact h.splice

theorem Paced.congr {s t : State} (h : Paced s) (hst : SameRun s t) : Paced t where
  pacer := by rw [hst.pacer, hst.mode]; exact h.pacer
  wait := by rw [hst.wait, hst.mode]; exact h.wait
  record := by rw [hst.record, hst.mode]; exact h.record

theorem Frameless.congr {s t : State} (h : Frameless s) (hst : SameRun s t) : Frameless t where
  live := hst.live ▸ h.live
  stack := hst.stack ▸ h.stack
  splice := hst.splice ▸ h.splice
  record := hst.record ▸ h.record
  wait := hst.wait ▸ h.wait
  swap := hst.swap ▸ h.swap

theorem Resting.congr {s t : State} (h : Resting s) (hst : SameRun s t) : Resting t :=
  { h.toFrameless.congr hst with
    notLive := hst.mode ▸ h.notLive
    pacer := hst.pacer ▸ h.pacer
    position := hst.position ▸ h.position
    armed := by rw [hst.mode, hst.store, hst.active]; exact h.armed }

theorem Surveying.congr {s t : State} (h : Surveying s) (hst : SameRun s t) : Surveying t :=
  { h.toFrameless.congr hst with
    kind := hst.kind ▸ h.kind
    mode := hst.mode ▸ h.mode
    pacer := hst.pacer ▸ h.pacer
    position := by rw [hst.position, hst.participants]; exact h.position }

theorem runPhase_congr {s t : State} (h : RunPhase s) (hst : SameRun s t) : RunPhase t := by
  rcases h with h | ⟨h, hp⟩ | h
  · exact Or.inl (h.congr hst)
  · exact Or.inr (Or.inl ⟨h.congr hst, hp.congr hst⟩)
  · exact Or.inr (Or.inr (h.congr hst))

/-- The link is no part of a run. -/
theorem sameRun_withLink (s : State) (l : Link) : SameRun s (s.withLink l) := by
  constructor <;> rfl

/-! ## One block replaced -/

theorem Core.withLink {s : State} (h : Core s) {l : Link} (hl : l.Sound)
    (hpack : s.store.pack ≠ none → l.requests.head? = s.link.requests.head?)
    (hup : l.power ≠ .operating → s.operating = false ∧ l.requests = [] ∧ l.outbound = []) :
    Core (s.withLink l) :=
  { store := h.store
    rotation := h.rotation
    trigger := h.trigger
    checker := h.checker
    engine := h.engine
    link := hl
    below := h.below
    phase := runPhase_congr h.phase (sameRun_withLink s l)
    pack := fun k hk => by
      obtain ⟨hm, hplan, hhead⟩ := h.pack k hk
      refine ⟨hm, hplan, ?_⟩
      rw [State.withLink_link, hpack fun hn => by rw [State.withLink_store, hn] at hk; cases hk]
      exact hhead
    startUp := fun ho => by
      have hne : l.power ≠ .operating := fun hop => by
        rw [(operating_iff _).2 hop] at ho
        cases ho
      obtain ⟨hs, hreq, hout⟩ := hup hne
      exact ⟨hreq, hout, (h.startUp hs).2.2⟩ }

/-- A request is submitted in a lawful state. -/
theorem Core.completeFrame {s : State} (h : Core s) (ho : s.operating = true) (f : LinkFrame) :
    Core (s.withLink (s.link.completeFrame f)) := by
  obtain ⟨hpower, hreq⟩ := completeFrame_keeps s.link f
  refine h.withLink (completeFrame_sound h.link f) (fun hp => ?_) fun hne => ?_
  · obtain ⟨k, hk⟩ := Option.ne_none_iff_exists'.1 hp
    obtain ⟨g, hg, _⟩ := Option.map_eq_some_iff.1 (h.pack k hk).2.2
    rcases hreq with e | e <;> simp [e, List.head?_append, hg]
  · rw [hpower] at hne
    exact absurd ((operating_iff s).1 ho) hne

/-- The reply placed, all laws hold (R171). -/
theorem Working.answered {f : LinkFrame} {rest : List LinkFrame} {w : Served}
    (h : Working (f :: rest) w.1) : Core (answered f w) := by
  refine h.core.withLink (answer_sound h.link.toSound h.link.queue w.2) (fun hp => ?_) fun hne => ?_
  · exact absurd h.unpacked hp
  · exact absurd h.link.power hne

/-- Another link open to the same requests. -/
theorem Working.withLink {q : List LinkFrame} {s : State} (h : Working q s) {l : Link}
    (hl : l.Open q) : Working q (s.withLink l) :=
  { store := h.store
    rotation := h.rotation
    trigger := h.trigger
    checker := h.checker
    engine := h.engine
    link := hl
    unpacked := h.unpacked
    below := h.below
    phase := runPhase_congr h.phase (sameRun_withLink s l) }

theorem Working.notice {q : List LinkFrame} {s : State} (h : Working q s) (k : NoticeKind)
    (p : List Byte) : Working q (s.notice k p) := h.withLink (h.link.notice k p)

theorem Steady.notice {q : List LinkFrame} {s : State} (h : Steady q s) (k : NoticeKind)
    (p : List Byte) : Steady q (s.notice k p) :=
  { store := h.store
    rotation := h.rotation
    trigger := h.trigger
    checker := h.checker
    engine := h.engine
    link := h.link.notice k p
    unpacked := h.unpacked }

/-- A state of the same run with the same link, whose other blocks keep their laws. -/
theorem Working.of_sameRun {q : List LinkFrame} {s t : State} (h : Working q s)
    (hst : SameRun s t) (link : t.link.Open q) (rotation : t.rotation.Sound s.store)
    (trigger : t.trigger.Sound s.store) (checker : t.checker.Sound)
    (below : s.engine.mode ≠ .lockout → t.checker.Below) (engine : t.engine.Sound) :
    Working q t :=
  { store := hst.store ▸ h.store
    rotation := hst.store ▸ rotation
    trigger := hst.store ▸ trigger
    checker := checker
    engine := engine
    link := link
    unpacked := hst.store ▸ h.unpacked
    below := fun hm => below (hst.mode ▸ hm)
    phase := runPhase_congr h.phase hst }

theorem Working.withChecker {q : List LinkFrame} {s : State} (h : Working q s) {c : Checker}
    (hc : c.Sound) (hb : s.engine.mode ≠ .lockout → c.Below) : Working q (s.withChecker c) :=
  h.of_sameRun (by constructor <;> rfl) h.link h.rotation h.trigger hc hb h.engine

theorem Working.withOutput {q : List LinkFrame} {s : State} (h : Working q s) (o : Output) :
    Working q (s.withOutput o) :=
  h.of_sameRun (by constructor <;> rfl) h.link h.rotation h.trigger h.checker h.below h.engine

theorem Working.withTrigger {q : List LinkFrame} {s : State} (h : Working q s) {g : Trigger}
    (hg : g.Sound s.store) : Working q (s.withTrigger g) :=
  h.of_sameRun (by constructor <;> rfl) h.link h.rotation hg h.checker h.below h.engine

theorem Core.withTrigger {s : State} (h : Core s) {g : Trigger} (hg : g.Sound s.store) :
    Core (s.withTrigger g) :=
  { store := h.store
    rotation := h.rotation
    trigger := hg
    checker := h.checker
    engine := h.engine
    link := h.link
    below := h.below
    phase := runPhase_congr h.phase (by constructor <;> rfl)
    pack := h.pack
    startUp := h.startUp }

/-- Another reference map, or whatever of the survey unit is not its position and participants. -/
theorem Working.withSurvey {q : List LinkFrame} {s : State} (h : Working q s) {v : Survey}
    (hp : v.participants = s.survey.participants) (hl : v.position = s.survey.position) :
    Working q (s.withSurvey v) :=
  h.of_sameRun ⟨rfl, rfl, rfl, rfl, rfl, hp, hl, rfl, rfl, rfl, rfl, rfl, rfl⟩ h.link h.rotation
    h.trigger h.checker h.below h.engine

/-- Another pending rotation, or whatever of the rotation unit is not the active rotation and the
flag. -/
theorem Working.withRotation {q : List LinkFrame} {s : State} (h : Working q s) {u : RotationUnit}
    (hu : u.Sound s.store) (ha : u.active = s.rotation.active)
    (hw : u.swapWaiting = s.rotation.swapWaiting) : Working q (s.withRotation u) :=
  h.of_sameRun ⟨rfl, ha, hw, rfl, rfl, rfl, rfl, rfl, rfl, rfl, rfl, rfl, rfl⟩ h.link hu
    h.trigger h.checker h.below h.engine

/-- Other timing sets. -/
theorem Working.withTiming {q : List LinkFrame} {s : State} (h : Working q s) {t : Timing}
    (hp : t.pacer = s.timing.pacer) (hw : t.waitTimer = s.timing.waitTimer) :
    Working q (s.withTiming t) :=
  h.of_sameRun ⟨rfl, rfl, rfl, hp, hw, rfl, rfl, rfl, rfl, rfl, rfl, rfl, rfl⟩ h.link h.rotation
    h.trigger h.checker h.below h.engine

/-- Other latches, pending stop and run flags: whatever of the engine no phase speaks of. -/
structure SameFrames (e f : Engine) : Prop where
  mode   : f.mode = e.mode
  kind   : f.runKind = e.runKind
  live   : f.live = e.live
  stack  : f.stack = e.stack
  splice : f.pendingSplice = e.pendingSplice
  record : f.stepRecord = e.stepRecord

theorem Working.withEngine {q : List LinkFrame} {s : State} (h : Working q s) {e : Engine}
    (he : e.Sound) (hf : SameFrames s.engine e) : Working q (s.withEngine e) :=
  h.of_sameRun ⟨rfl, rfl, rfl, rfl, rfl, rfl, rfl, hf.mode, hf.kind, hf.live, hf.stack, hf.splice,
    hf.record⟩ h.link h.rotation h.trigger h.checker h.below he

end Sys2Proof.Machine
end

section
/-! SUPPORT. The laws through a run: the run end, the step start, and every move of the position
(R59, R81, R82, R85, R94, R110). -/

namespace Sys2Proof.Machine

open Safety

/-! ## What the operations of a run leave alone -/

/-- `t` differs from `s` in the link, the lanes, the timing and survey units, and of the engine in
neither the options nor the snapshots. -/
structure SameRest (s t : State) : Prop where
  store     : t.store = s.store
  rotation  : t.rotation = s.rotation
  trigger   : t.trigger = s.trigger
  checker   : t.checker = s.checker
  options   : t.engine.options = s.engine.options
  snapshots : t.engine.snapshots = s.engine.snapshots

/-- `t` has the frames of `s`, on the same ground. -/
structure KeepsFrames (s t : State) : Prop extends SameGround s t where
  position : t.survey.position = s.survey.position
  kind     : t.engine.runKind = s.engine.runKind
  live     : t.engine.live = s.engine.live
  stack    : t.engine.stack = s.engine.stack
  splice   : t.engine.pendingSplice = s.engine.pendingSplice

theorem Engine.Sound.congr {e f : Engine} (h : e.Sound) (ho : f.options = e.options)
    (hs : f.snapshots = e.snapshots) : f.Sound :=
  ⟨ho ▸ h.options, hs ▸ h.snapshots⟩

theorem Steady.congr {q : List LinkFrame} {s t : State} (h : Steady q s) (hst : SameRest s t)
    (hl : t.link.Open q) : Steady q t where
  store := hst.store ▸ h.store
  rotation := by rw [hst.rotation, hst.store]; exact h.rotation
  trigger := by rw [hst.trigger, hst.store]; exact h.trigger
  checker := hst.checker ▸ h.checker
  engine := h.engine.congr hst.options hst.snapshots
  link := hl
  unpacked := hst.store ▸ h.unpacked

theorem Framed.transfer {s t : State} (h : Framed s) (hst : KeepsFrames s t)
    (hm : t.engine.mode.isLive = true) : Framed t where
  isLive := hm
  kind := hst.kind ▸ h.kind
  position := hst.position ▸ h.position
  playable := by rw [hst.store, hst.active]; exact h.playable
  tower := by
    obtain ⟨f, hf, htower⟩ := h.tower
    exact ⟨f, hst.live ▸ hf, hst.stack ▸ htower.congr hst.toSameGround⟩
  room := by rw [hst.stack, hst.splice]; exact h.room
  splice := by rw [hst.splice, hst.store]; exact h.splice

/-- A live rotation run at a moment when a step may start: every law holds but those of the pacer, the
wait timer and the kept record, which the step start sets. -/
structure Ready (q : List LinkFrame) (s : State) : Prop extends Steady q s where
  framed : Framed s
  below  : s.checker.Below

theorem Ready.congr {q : List LinkFrame} {s t : State} (h : Ready q s) (hr : SameRest s t)
    (hf : KeepsFrames s t) (hl : t.link.Open q) (hm : t.engine.mode.isLive = true) : Ready q t :=
  { h.toSteady.congr hr hl with
    framed := h.framed.transfer hf hm
    below := hr.checker ▸ h.below }

theorem Ready.working {q : List LinkFrame} {s : State} (h : Ready q s) (hp : Paced s) :
    Working q s :=
  { h.toSteady with
    below := fun _ => h.below
    phase := Or.inr (Or.inl ⟨h.framed, hp⟩) }

theorem below_of_isLive {q : List LinkFrame} {s : State} (h : Working q s)
    (hm : s.engine.mode.isLive = true) : s.checker.Below :=
  h.below fun hl => by rw [hl] at hm; cases hm

/-- A live rotation run is framed and paced. -/
theorem Working.rotating {q : List LinkFrame} {s : State} (h : Working q s)
    (hr : s.engine.rotationLive = true) : Ready q s ∧ Paced s := by
  rcases h.phase with hp | ⟨hf, hp⟩ | hp
  · simp [Engine.rotationLive, hp.notLive] at hr
  · exact ⟨{ h.toSteady with framed := hf, below := below_of_isLive h hf.isLive }, hp⟩
  · simp [hp.rotationLive] at hr

theorem Working.resting {q : List LinkFrame} {s : State} (h : Working q s)
    (hm : s.engine.mode.isLive = false) : Resting s := by
  rcases h.phase with hp | ⟨hf, _⟩ | hp
  · exact hp
  · simp [hf.isLive] at hm
  · simp [hp.isLive] at hm

/-! ## The swap and the run end (R66, R94) -/

theorem swapIfWaiting_sound {s : State} (h : s.rotation.Sound s.store) (m : SwapManner) :
    (swapIfWaiting m s).rotation.Sound s.store := by
  rw [swapIfWaiting_rotation]
  split
  next hw =>
    exact ⟨Or.inr (h.waiting hw), fun hf => (by cases hf), h.count, fun i =>
      ⟨(h.dwells i).2, (h.dwells i).2⟩⟩
  · exact h

theorem swapIfWaiting_open {q : List LinkFrame} {s : State} (h : s.link.Open q) (m : SwapManner) :
    (swapIfWaiting m s).link.Open q := by
  rw [swapIfWaiting_link]
  split
  · exact h.notice _ _
  · exact h

theorem swapIfWaiting_steady {q : List LinkFrame} {s : State} (h : Steady q s) (m : SwapManner) :
    Steady q (swapIfWaiting m s) where
  store := by rw [swapIfWaiting_store]; exact h.store
  rotation := by rw [swapIfWaiting_store]; exact swapIfWaiting_sound h.rotation m
  trigger := by rw [swapIfWaiting_store, swapIfWaiting_trigger]; exact h.trigger
  checker := by rw [swapIfWaiting_checker]; exact h.checker
  engine := by rw [swapIfWaiting_engine]; exact h.engine
  link := swapIfWaiting_open h.link m
  unpacked := by rw [swapIfWaiting_store]; exact h.unpacked

/-- After a run end no run is live (R94). -/
theorem runEnd_resting (c : StopCause) (s : State) : Resting (runEnd c s) where
  live := by rw [runEnd_engine]; rfl
  stack := by rw [runEnd_engine]; rfl
  splice := by rw [runEnd_engine]; rfl
  record := by rw [runEnd_engine]; rfl
  wait := by rw [runEnd_timing]; rfl
  swap := by rw [runEnd_rotation, swapIfWaiting_swapWaiting]
  notLive := runEnd_isLive c s
  pacer := by rw [runEnd_timing]; rfl
  position := by rw [runEnd_survey]
  armed hm := by
    rw [runEnd_engine] at hm
    cases c <;> cases hm

/-- A run end leaves all laws holding; with cause LOCKOUT it needs no lane count below the limit. -/
theorem runEnd_working {q : List LinkFrame} {s : State} (h : Steady q s) {c : StopCause}
    (hb : c ≠ .lockout → s.checker.Below) : Working q (runEnd c s) where
  store := by rw [runEnd_store]; exact h.store
  rotation := by
    rw [runEnd_rotation, runEnd_store]
    exact swapIfWaiting_sound h.rotation .runEnd
  trigger := by rw [runEnd_trigger, runEnd_store]; exact h.trigger
  checker := by rw [runEnd_checker]; exact h.checker
  engine := by rw [runEnd_engine]; exact h.engine.congr rfl rfl
  link := by
    rw [runEnd_link]
    exact (swapIfWaiting_open h.link .runEnd).notice _ _
  unpacked := by rw [runEnd_store]; exact h.unpacked
  below hm := by
    rw [runEnd_engine] at hm
    rw [runEnd_checker]
    refine hb fun hc => hm ?_
    rw [hc]
    rfl
  phase := Or.inl (runEnd_resting c s)

theorem enterLockout_working {q : List LinkFrame} {s : State} (h : Steady q s) :
    Working q (enterLockout s) :=
  (runEnd_working h (c := .lockout) fun hne => absurd rfl hne).notice _ _

/-! ## The step start (R85) -/

theorem beginStep_open {q : List LinkFrame} {s : State} (h : s.link.Open q) (f : RunFrame)
    (v : VectorRec) : (beginStep f v s).link.Open q := by
  simp only [beginStep]
  split
  · exact h.notice _ _
  · exact h

/-- A step that starts with its record kept (R85 step 3). -/
theorem beginStep_working {q : List LinkFrame} {s : State} (h : Ready q s) (f : RunFrame)
    (v : VectorRec) (hrec : s.engine.stepRecord.isSome = true) : Working q (beginStep f v s) := by
  have hengine := beginStep_engine f v s
  have hready : Ready q (beginStep f v s) := by
    refine h.congr ?_ ?_ (beginStep_open h.link f v) (by rw [hengine]; rfl)
    · exact ⟨beginStep_store f v s, beginStep_rotation f v s, beginStep_trigger f v s,
        beginStep_checker f v s, by rw [hengine], by rw [hengine]⟩
    · exact ⟨⟨beginStep_store f v s, by rw [beginStep_rotation]⟩, by rw [beginStep_survey],
        by rw [hengine], by rw [hengine], by rw [hengine], by rw [hengine]⟩
  refine hready.working ⟨?_, ?_, ?_⟩
  · simp [beginStep_timing, hengine, Timing.startPacer]
  · simp [beginStep_timing, Timing.startPacer, Timing.stopWait, WaitTimer.stopped]
  · simp [hengine, hrec]

theorem consumeRelease_ready {q : List LinkFrame} {s : State} (h : Ready q s) (v : VectorRec) :
    Ready q (consumeRelease v s) := by
  unfold consumeRelease
  split
  · exact h.congr (by constructor <;> rfl) ⟨⟨rfl, rfl⟩, rfl, rfl, rfl, rfl, rfl⟩ h.link
      h.framed.isLive
  · exact h

theorem stageStep_ready {q : List LinkFrame} {s : State} (h : Ready q s) (v : VectorRec) :
    Ready q (stageStep v s) :=
  h.congr (by constructor <;> rfl) ⟨⟨rfl, rfl⟩, rfl, rfl, rfl, rfl, rfl⟩ h.link h.framed.isLive

/-- A run that is ready goes on with a lawful step, or waits for its release (R85). -/
theorem stepStart_working {q : List LinkFrame} {s : State} (h : Ready q s) :
    Working q (stepStart s) := by
  obtain ⟨f, hf, _⟩ := h.framed.tower
  unfold stepStart
  rw [hf]
  dsimp only
  have hstage := stageStep_ready h (s.store.vector f.pattern f.pos.index)
  split
  · have hwait : Ready q (enterWaiting (stageStep (s.store.vector f.pattern f.pos.index) s)) :=
      hstage.congr (by constructor <;> rfl) ⟨⟨rfl, rfl⟩, rfl, rfl, rfl, rfl, rfl⟩ h.link rfl
    refine hwait.working ⟨?_, fun _ => Or.inl rfl, ?_⟩
    · simp [enterWaiting, Timing.stopPacer, Timing.loadWait]
    · simp [enterWaiting, stageStep]
  · refine beginStep_working (consumeRelease_ready hstage _) f _ ?_
    rw [consumeRelease_engine]
    rfl

/-- The waiting step starts with the record kept for it (R85, R88). -/
theorem startWaitingStep_working {q : List LinkFrame} {s : State} (h : Ready q s) (hp : Paced s)
    (hm : s.engine.mode ≠ .held .boundary) : Working q (startWaitingStep s) := by
  obtain ⟨f, hf, _⟩ := h.framed.tower
  obtain ⟨v, hv⟩ := Option.isSome_iff_exists.1 (hp.record.2 hm)
  unfold startWaitingStep
  rw [hf, hv]
  refine beginStep_working (consumeRelease_ready h v) f v ?_
  rw [consumeRelease_engine]
  simp [hv]

/-! ## Positions of a pass (R59) -/

theorem suited_iff {d : Direction} {n : Nat} {p : Position} :
    suited d n p = true ↔ p ∈ passPositions d n := by
  simp [suited]

/-- A position later in the pass is one of the pass. -/
theorem suited_positionAfter {d : Direction} {n k : Nat} {p p' : Position}
    (h : positionAfter d n p k = some p') : suited d n p' = true := by
  rw [suited_iff]
  exact (List.dropWhile_sublist _).subset (List.mem_of_getElem? h)

/-- A pattern that is not empty has a first position of its pass. -/
theorem suited_firstPosition {n : Nat} (d : Direction) (h : 1 ≤ n) :
    suited d n (firstPosition d n) = true := by
  rw [suited_iff, firstPosition]
  have hne : passPositions d n ≠ [] := by
    have hn : n ≠ 0 := Nat.ne_of_gt h
    cases d <;> simp [passPositions, hn]
  obtain ⟨p, l, hl⟩ := List.exists_cons_of_ne_nil hne
  simp [hl]

/-- Index 0, ascending, is the first position of a forward pass (R105). -/
theorem suited_forward {n i : Nat} (h : i < n) : suited .forward n ⟨i, .ascending⟩ = true := by
  rw [suited_iff]
  simpa [passPositions] using h

/-- A defined pattern is not empty (R19, R24). -/
theorem one_le_length {t : Store} (h : t.Sound) {p : PatternId}
    (hp : (t.content p).isDefined = true) : 1 ≤ (t.content p).length := by
  have hin := h.inRange p
  cases hc : t.content p with
  | undefined => rw [hc] at hp; cases hp
  | stored n b =>
    rw [hc] at hin
    exact (stored_inRange hin).1
  | generated n g =>
    rw [hc] at hin
    simp only [entryInRange, Bool.and_eq_true, decide_eq_true_eq] at hin
    exact hin.1.1.1

/-! ## Frames (R60, R80, R105) -/

/-- What `framePlaced` says of a BASE frame. -/
theorem frameSound_base {s : State} {f : RunFrame} {b : BasePlace} (h : f.base = some b) :
    FrameSound s f ↔ (s.store.content f.pattern).isDefined = true ∧
      suited (s.directionOf f) (s.lengthOf f) f.pos = true ∧
      b.slot.val < s.rotation.active.count ∧
      f.pattern = s.rotation.active.slots[b.slot].pattern ∧
      1 ≤ b.passesLeft ∧ b.passesLeft ≤ s.rotation.active.slots[b.slot].dwell := by
  simp [FrameSound, framePlaced, h, and_assoc]

/-- What it says of a SPLICE frame. -/
theorem frameSound_splice {s : State} {f : RunFrame} (h : f.base = none) :
    FrameSound s f ↔ (s.store.content f.pattern).isDefined = true ∧
      suited .forward (s.lengthOf f) f.pos = true := by
  simp [FrameSound, framePlaced, State.directionOf, h]

/-- A frame at another position of its pass. -/
theorem FrameSound.move {s : State} {f : RunFrame} (h : FrameSound s f) {p : Position}
    (hp : suited (s.directionOf f) (s.lengthOf f) p = true) : FrameSound s { f with pos := p } := by
  obtain hb | ⟨b, hb⟩ := Option.eq_none_or_eq_some f.base
  · simp only [State.directionOf, hb] at hp
    exact (frameSound_splice (f := { f with pos := p }) hb).2
      ⟨((frameSound_splice hb).1 h).1, hp⟩
  · obtain ⟨hdef, _, hplace⟩ := (frameSound_base hb).1 h
    exact (frameSound_base (f := { f with pos := p }) hb).2 ⟨hdef, hp, hplace⟩

/-- The base frame set up from a slot of a playable rotation (R60). -/
theorem setupBase_sound {s : State} (hs : s.store.Sound) (hp : Playable s.store s.rotation.active)
    {i : SlotIndex} (hi : i.val < s.rotation.active.count) : FrameSound s (s.setupBase i) := by
  obtain ⟨hdef, hdwell⟩ := hp.2.2 i hi
  exact (frameSound_base rfl).2 ⟨hdef, suited_firstPosition _ (one_le_length hs hdef), hi, rfl, hdwell,
    Nat.le_refl _⟩

/-- The frame a splice of a defined pattern makes live (R105). -/
theorem splice_frame_sound {s : State} (hs : s.store.Sound) {x : Splice}
    (hx : (s.store.content x.pattern).isDefined = true) : FrameSound s x.frame :=
  (frameSound_splice rfl).2 ⟨hx, suited_forward (one_le_length hs hx)⟩

/-- The live frame of a tower moved within its pass. -/
theorem Tower.move {s : State} {f : RunFrame} {stack : List SavedFrame} (h : Tower s f stack)
    {p : Position} (hp : suited (s.directionOf f) (s.lengthOf f) p = true) :
    Tower s { f with pos := p } stack := by
  cases stack with
  | nil =>
    obtain ⟨hf, hbase⟩ := h
    exact ⟨hf.move hp, hbase⟩
  | cons g rest =>
    obtain ⟨hf, hbase, hrest⟩ := h
    exact ⟨hf.move hp, hbase, hrest⟩

/-! ## Moves (R81, R84, R110, R111) -/

/-- A move is sound when the frames it names are a tower of no more than `n` saved frames; the wrap
always is. -/
def MoveSound (s : State) (n : Nat) : Moved → Prop
  | .frame f stack => Tower s f stack ∧ stack.length ≤ n
  | .wrap => True

theorem MoveSound.mono {s : State} {m n : Nat} {x : Moved} (h : MoveSound s m x) (hmn : m ≤ n) :
    MoveSound s n x := by
  cases x with
  | frame f stack => exact ⟨h.1, Nat.le_trans h.2 hmn⟩
  | wrap => trivial

section
variable {s : State} (hs : s.store.Sound) (hp : Playable s.store s.rotation.active)
include hs hp

theorem slotEnd_sound (b : BasePlace) : MoveSound s 0 (s.slotEnd b) := by
  unfold State.slotEnd
  split
  · split
    next hlt => exact ⟨⟨setupBase_sound hs hp hlt, rfl⟩, Nat.le_refl 0⟩
    · trivial
  · trivial

theorem basePassEnd_sound {f : RunFrame} {b : BasePlace} (hf : FrameSound s f)
    (hb : f.base = some b) : MoveSound s 0 (s.basePassEnd f b) := by
  unfold State.basePassEnd
  split
  next hleft =>
    obtain ⟨hdef, _, hslot, hpat, _, hdwell⟩ := (frameSound_base hb).1 hf
    refine ⟨⟨(frameSound_base (b := { b with passesLeft := b.passesLeft - 1 }) rfl).2
      ⟨hdef, ?_, hslot, hpat, ?_, ?_⟩, rfl⟩, Nat.le_refl 0⟩
    · simp only [State.directionOf, hb]
      exact suited_firstPosition _ (one_le_length hs hdef)
    · dsimp only
      omega
    · dsimp only
      omega
  · exact slotEnd_sound hs hp b

/-- A pop of the frame on top of the stack (R110, R111). -/
theorem pop_sound (g : SavedFrame) (rest : List SavedFrame) (h : Tower s g.frame rest) :
    MoveSound s rest.length (s.pop (g :: rest)) := by
  induction rest generalizing g with
  | nil =>
    obtain ⟨hf, hbase⟩ := h
    obtain ⟨b, hb⟩ := Option.isSome_iff_exists.1 hbase
    rw [State.pop]
    split
    next p hpos => exact ⟨⟨hf.move (suited_positionAfter hpos), hbase⟩, Nat.le_refl _⟩
    · rw [hb]
      exact basePassEnd_sound hs hp hf hb
  | cons g' rest ih =>
    have ⟨_, hbase, _, hrest⟩ := h
    rw [State.pop]
    split
    next p hpos => exact ⟨h.move (suited_positionAfter hpos), Nat.le_refl _⟩
    · rw [hbase]
      exact (ih g' hrest).mono (Nat.le_succ _)

/-- The end of the live frame's pass: of a BASE frame over an empty stack, or a pop (R81 step 2). -/
theorem passEnd_sound {f : RunFrame} {stack : List SavedFrame} (h : Tower s f stack) :
    MoveSound s stack.length (s.passEnd f stack) := by
  unfold State.passEnd
  cases stack with
  | nil =>
    obtain ⟨hf, hbase⟩ := h
    obtain ⟨b, hb⟩ := Option.isSome_iff_exists.1 hbase
    rw [hb]
    exact basePassEnd_sound hs hp hf hb
  | cons g rest =>
    obtain ⟨_, hbase, _, hrest⟩ := h
    rw [hbase]
    exact (pop_sound hs hp g rest hrest).mono (Nat.le_succ _)

theorem moveOn_sound {f : RunFrame} {stack : List SavedFrame} (h : Tower s f stack) :
    MoveSound s stack.length (s.moveOn f stack) := by
  unfold State.moveOn
  split
  next p hpos => exact ⟨h.move (suited_positionAfter hpos), Nat.le_refl _⟩
  · exact passEnd_sound hs hp h

theorem advanceOn_sound {f : RunFrame} {stack : List SavedFrame} (h : Tower s f stack) :
    MoveSound s stack.length (s.advanceOn f stack) := by
  unfold State.advanceOn
  cases stack with
  | nil =>
    obtain ⟨_, hbase⟩ := h
    obtain ⟨b, hb⟩ := Option.isSome_iff_exists.1 hbase
    rw [hb]
    exact slotEnd_sound hs hp b
  | cons g rest =>
    obtain ⟨_, hbase, _, hrest⟩ := h
    rw [hbase]
    exact (pop_sound hs hp g rest hrest).mono (Nat.le_succ _)

end

end Sys2Proof.Machine
end

section
/-! SUPPORT. The laws through the events and requests of a rotation run: the step end with its moves,
the run start, splices, stops, releases, the engine reset (R78, R79, R82, R87 to R108). -/

namespace Sys2Proof.Machine

open Safety

/-! ## The wrap and the step end (R82, R87) -/

/-- Another tower under a live rotation run. -/
theorem putFrames_ready {q : List LinkFrame} {s : State} (h : Steady q s) (hb : s.checker.Below)
    (hr : RotationRun s) {f : RunFrame} {stack : List SavedFrame} (ht : Tower s f stack)
    (hroom : stack.length + (if s.engine.pendingSplice.isSome then 1 else 0) ≤ 4) :
    Ready q (s.putFrames f stack) :=
  { h.congr (t := s.putFrames f stack) (by constructor <;> rfl) h.link with
    below := hb
    framed :=
      { isLive := hr.isLive
        kind := hr.kind
        position := hr.position
        playable := hr.playable
        splice := hr.splice
        tower := ⟨f, rfl, ht.congr ⟨rfl, rfl⟩⟩
        room := hroom } }

/-- A swap at the wrap leaves the rotation run live over a playable rotation (R66, R69). -/
theorem swapIfWaiting_rotationRun {s : State} (hu : s.rotation.Sound s.store) (h : RotationRun s)
    (m : SwapManner) : RotationRun (swapIfWaiting m s) where
  isLive := by rw [swapIfWaiting_engine]; exact h.isLive
  kind := by rw [swapIfWaiting_engine]; exact h.kind
  position := by rw [swapIfWaiting_survey]; exact h.position
  playable := by
    rw [swapIfWaiting_store, swapIfWaiting_active]
    split
    next hw => exact hu.waiting hw
    · exact h.playable
  splice := by rw [swapIfWaiting_engine, swapIfWaiting_store]; exact h.splice

/-- A sound move carried out leaves the run ready with its pending splice, or ended (R82). -/
theorem settle_ready {q : List LinkFrame} {s : State} (h : Ready q s) {m : Moved}
    (hm : MoveSound s s.engine.stack.length m) :
    (Ready q (settle m s) ∧ (settle m s).engine.pendingSplice = s.engine.pendingSplice) ∨
      (Working q (settle m s) ∧ (settle m s).engine.mode.isLive = false) := by
  have hroom := h.framed.room
  cases m with
  | frame f stack =>
    obtain ⟨htower, hlen⟩ := hm
    exact Or.inl
      ⟨putFrames_ready h.toSteady h.below h.framed.toRotationRun htower (by omega), rfl⟩
  | wrap =>
    have ht := swapIfWaiting_steady h.toSteady .wrap
    have hb : (swapIfWaiting .wrap s).checker.Below := by
      rw [swapIfWaiting_checker]
      exact h.below
    have hr := swapIfWaiting_rotationRun h.rotation h.framed.toRotationRun .wrap
    have hbase := setupBase_sound ht.store hr.playable (i := 0) hr.playable.1
    unfold settle
    dsimp only
    split
    · exact Or.inr ⟨runEnd_working ht fun _ => hb, runEnd_isLive _ _⟩
    · refine Or.inl ⟨putFrames_ready ht hb hr ⟨hbase, rfl⟩ ?_, ?_⟩
      · rw [swapIfWaiting_engine]
        exact Nat.le_trans (Nat.add_le_add_right (Nat.zero_le _) _) hroom
      · rw [State.putFrames, State.withEngine_engine, swapIfWaiting_engine]

/-- The next step start after a sound move (R87). -/
theorem goOn_settle_working {q : List LinkFrame} {s : State} (h : Ready q s) {m : Moved}
    (hm : MoveSound s s.engine.stack.length m) : Working q (goOn (settle m s)) := by
  unfold goOn
  rcases settle_ready h hm with ⟨hready, _⟩ | ⟨hworking, hover⟩
  · rw [if_pos hready.framed.isLive]
    exact stepStart_working hready
  · rw [if_neg (by simp [hover])]
    exact hworking

/-- The engine fields that a push leaves alone (R105). -/
structure PushKeeps (e f : Engine) : Prop where
  options   : f.options = e.options
  snapshots : f.snapshots = e.snapshots
  kind      : f.runKind = e.runKind
  splice    : f.pendingSplice = e.pendingSplice
  mode      : f.mode = e.mode

theorem pushed_keeps (e : Engine) (x : Splice) : PushKeeps e (e.pushed x) := by
  unfold Engine.pushed
  split <;> constructor <;> rfl

/-- A splice pushed onto a live rotation run: its frame is live over the frame before it (R105). -/
theorem pushed_framed {s t : State} (hs : s.store.Sound) (h : Framed s) {x : Splice}
    (hx : (s.store.content x.pattern).isDefined = true ∧ x.skip ≤ 255)
    (hroom : s.engine.stack.length + 1 ≤ 4) (hst : SameGround s t)
    (hposition : t.survey.position = s.survey.position)
    (hlive : t.engine.live = (s.engine.pushed x).live)
    (hstack : t.engine.stack = (s.engine.pushed x).stack)
    (hkind : t.engine.runKind = (s.engine.pushed x).runKind)
    (hsplice : t.engine.pendingSplice = none) (hm : t.engine.mode.isLive = true) : Framed t := by
  obtain ⟨f, hf, htower⟩ := h.tower
  rw [(pushed_keeps s.engine x).kind] at hkind
  simp only [Engine.pushed, hf] at hlive hstack
  have htower' : Tower s x.frame (⟨f, x.skip⟩ :: s.engine.stack) :=
    ⟨splice_frame_sound hs hx.1, rfl, hx.2, htower⟩
  exact
    { isLive := hm
      kind := hkind.trans h.kind
      position := hposition.trans h.position
      playable := by rw [hst.store, hst.active]; exact h.playable
      splice := by simp [hsplice]
      tower := ⟨x.frame, hlive, hstack ▸ htower'.congr hst⟩
      room := by simpa [hstack, hsplice] using hroom }

/-- The pending splice taken (R105). -/
theorem takePending_working {q : List LinkFrame} {s : State} (h : Ready q s) {x : Splice}
    (hx : s.engine.pendingSplice = some x) : Working q (takePending x s) := by
  have hroom := h.framed.room
  rw [hx] at hroom
  have hkeeps := pushed_keeps s.engine x
  have hmode := h.framed.isLive
  rw [← hkeeps.mode] at hmode
  unfold takePending
  rw [if_pos h.framed.isLive]
  apply stepStart_working
  exact
    { h.toSteady.congr (t := s.withEngine { s.engine.pushed x with pendingSplice := none })
        ⟨rfl, rfl, rfl, rfl, hkeeps.options, hkeeps.snapshots⟩ h.link with
      below := h.below
      framed := pushed_framed h.store h.framed (h.framed.splice x hx) hroom ⟨rfl, rfl⟩ rfl rfl rfl
        rfl rfl hmode }

/-- The pending splice taken after a sound move, unless the move ended the run (R105). -/
theorem takePending_settle_working {q : List LinkFrame} {s : State} (h : Ready q s) {m : Moved}
    (hm : MoveSound s s.engine.stack.length m) {x : Splice}
    (hx : s.engine.pendingSplice = some x) : Working q (takePending x (settle m s)) := by
  rcases settle_ready h hm with ⟨hready, hkept⟩ | ⟨hworking, hover⟩
  · exact takePending_working hready (hkept.trans hx)
  · unfold takePending
    rw [if_neg (by simp [hover])]
    exact hworking

theorem countStep_ready {q : List LinkFrame} {s : State} (h : Ready q s) : Ready q (countStep s) :=
  h.congr (by constructor <;> rfl) ⟨⟨rfl, rfl⟩, rfl, rfl, rfl, rfl, rfl⟩ h.link h.framed.isLive

/-- Steps 2 to 4 of R87. -/
theorem endMove_working {q : List LinkFrame} {s : State} (h : Ready q s) {f : RunFrame}
    (hf : s.engine.live = some f) : Working q (endMove f s) := by
  obtain ⟨f', hf', htower⟩ := h.framed.tower
  obtain rfl : f' = f := Option.some.inj (hf'.symm.trans hf)
  have hplay := h.framed.playable
  unfold endMove
  split
  next x hx => exact takePending_settle_working h (moveOn_sound h.store hplay htower) hx
  · split
    · have h' : Ready q (s.withEngine { s.engine with advanceLatch := false }) :=
        h.congr (by constructor <;> rfl) ⟨⟨rfl, rfl⟩, rfl, rfl, rfl, rfl, rfl⟩ h.link
          h.framed.isLive
      have hmove : MoveSound (s.withEngine { s.engine with advanceLatch := false })
          s.engine.stack.length (s.advanceOn f' s.engine.stack) := by
        have := advanceOn_sound h.store hplay htower
        revert this
        cases s.advanceOn f' s.engine.stack with
        | frame g stack => exact fun hm => ⟨hm.1.congr ⟨rfl, rfl⟩, hm.2⟩
        | wrap => exact id
      exact goOn_settle_working h' hmove
    · exact goOn_settle_working h (moveOn_sound h.store hplay htower)

theorem rotationStepEnd_working {q : List LinkFrame} {s : State} (h : Ready q s) :
    Working q (rotationStepEnd s) := by
  have hcount := countStep_ready h
  obtain ⟨f, hf, _⟩ := hcount.framed.tower
  unfold rotationStepEnd
  dsimp only
  split
  · exact runEnd_working hcount.toSteady fun _ => hcount.below
  · rw [hf]
    exact endMove_working hcount hf

/-! ## The run start (R79) -/

theorem clearLog_sound {c : Checker} (h : c.Sound) : c.clearLog.Sound :=
  { log := Nat.zero_le _
    counts := fun n => ⟨by simp [Checker.clearLog], (h.counts n).2⟩
    failing := h.failing
    threshold := h.threshold
    limit := h.limit }

theorem startRun_checker_sound {c : Checker} (h : c.Sound) (clear : Bool) :
    (c.startRun clear).Sound := by
  have hd : ({ c with failingSteps := 0, firstFailNotified := false } : Checker).Sound :=
    { h with failing := Nat.zero_le _ }
  unfold Checker.startRun
  cases clear with
  | true => exact clearLog_sound hd
  | false => exact hd

theorem startRun_checker_below {c : Checker} (h : c.Below) (clear : Bool) :
    (c.startRun clear).Below := by
  cases clear <;> exact h

/-- A run start from ARMED (R79). -/
theorem startRun_working {q : List LinkFrame} {s : State} (h : Working q s)
    (hm : s.engine.mode = .armed) : Working q (startRun s) := by
  have hrest := h.resting (by rw [hm]; rfl)
  have hplay := hrest.armed hm
  have hbase := setupBase_sound h.store hplay (i := 0) hplay.1
  have hbelow := h.below (by rw [hm]; simp)
  apply stepStart_working
  exact
    { store := h.store
      rotation := h.rotation
      trigger := h.trigger
      checker := startRun_checker_sound h.checker _
      engine := h.engine.congr rfl rfl
      link := h.link
      unpacked := h.unpacked
      below := startRun_checker_below hbelow _
      framed :=
        { isLive := rfl
          kind := rfl
          position := hrest.position
          playable := hplay
          splice := by simp [Engine.startRun, hrest.splice]
          tower := ⟨s.setupBase 0, rfl, hbase.congr ⟨rfl, rfl⟩, rfl⟩
          room := by simp [Engine.startRun, hrest.splice] } }

/-! ## Splices (R103 to R108) -/

/-- What an accepted splice has found (R103). -/
structure SpliceFits (s : State) (x : Splice) : Prop where
  live    : s.engine.rotationLive = true
  defined : (s.store.content x.pattern).isDefined = true
  free    : s.engine.pendingSplice = none
  room    : s.engine.stack.length < 4

theorem spliceFits_of_checks {s : State} {x : Splice} (hgate : s.spliceGate = none)
    (hroom : s.spliceRoom x = none) : SpliceFits s x where
  live := by
    by_contra hn
    revert hgate
    unfold State.spliceGate
    split <;> simp [hn]
  defined := by
    by_contra hn
    rw [State.spliceRoom, if_pos (by simpa using hn)] at hroom
    cases hroom
  free := by
    by_contra hn
    revert hroom
    unfold State.spliceRoom
    split <;> simp [Option.isSome_iff_ne_none, hn]
  room := by
    by_contra hn
    have hfull : Config.stackLimit ≤ s.engine.depth := Nat.not_lt.1 hn
    revert hroom
    unfold State.spliceRoom
    rw [if_pos hfull]
    split
    · simp
    · split <;> simp

/-- Where a splice is taken at once, no step is in progress: the pacer holds none (R104). -/
theorem Paced.pacer_none {s : State} (h : Paced s) (hm : s.engine.mode.takesAtOnce = true) :
    s.timing.pacer = none := by
  have hpacer := h.pacer
  have hne : s.engine.mode ≠ .running ∧ s.engine.mode ≠ .held .running := by
    constructor <;> rintro e <;> rw [e] at hm <;> cases hm
  simpa [hne.1, hne.2] using hpacer

/-- A splice pushed and the wait stopped, in the engine state `m` with the kept record `r`: the state
that `spliceInHeld` makes, and the one whose step `spliceInWaiting` starts (R107, R108). -/
def pushedAtOnce (m : EngineState) (r : Option VectorRec) (x : Splice) (s : State) : State :=
  { s with
    timing := s.timing.stopWait
    engine := { s.engine.pushed x with mode := m, stepRecord := r } }

theorem pushedAtOnce_ready {q : List LinkFrame} {s : State} (h : Ready q s) {x : Splice}
    (hx : SpliceFits s x) (hskip : x.skip ≤ 255) {m : EngineState} (hm : m.isLive = true)
    (r : Option VectorRec) : Ready q (pushedAtOnce m r x s) :=
  have hkeeps := pushed_keeps s.engine x
  { h.toSteady.congr (t := pushedAtOnce m r x s)
      ⟨rfl, rfl, rfl, rfl, hkeeps.options, hkeeps.snapshots⟩ h.link with
    below := h.below
    framed := pushed_framed h.store h.framed ⟨hx.defined, hskip⟩ hx.room ⟨rfl, rfl⟩ rfl rfl rfl rfl
      (hkeeps.splice.trans hx.free) hm }

/-- A splice kept pending, a step being in progress (R104). -/
theorem pendSplice_ready {q : List LinkFrame} {s : State} (h : Ready q s) {x : Splice}
    (hx : SpliceFits s x) (hskip : x.skip ≤ 255) : Ready q (pendSplice x s) :=
  { h.toSteady.congr (t := pendSplice x s) (by constructor <;> rfl) h.link with
    below := h.below
    framed :=
      { isLive := h.framed.isLive
        kind := h.framed.kind
        position := h.framed.position
        playable := h.framed.playable
        splice := fun y hy => by
          obtain rfl : x = y := Option.some.inj hy
          exact ⟨hx.defined, hskip⟩
        tower := by
          obtain ⟨f, hf, htower⟩ := h.framed.tower
          exact ⟨f, hf, htower.congr ⟨rfl, rfl⟩⟩
        room := hx.room } }

/-- An accepted splice leaves all laws holding, taken at once or pending (R104 to R108). -/
theorem acceptSplice_working {q : List LinkFrame} {s : State} (h : Working q s) {x : Splice}
    (hx : SpliceFits s x) (hskip : x.skip ≤ 255) : Working q (acceptSplice x s) := by
  obtain ⟨hready, hpaced⟩ := h.rotating hx.live
  unfold acceptSplice
  split
  next hat =>
    split
    · exact stepStart_working (pushedAtOnce_ready hready hx hskip (m := .running) rfl _)
    · have hheld : Ready q (spliceInHeld x s) :=
        pushedAtOnce_ready hready hx hskip (m := .held .boundary) rfl none
      refine hheld.working ⟨?_, ?_, ?_⟩
      · simp [spliceInHeld, Timing.stopWait, hpaced.pacer_none hat]
      · simp [spliceInHeld, Timing.stopWait, WaitTimer.stopped]
      · simp [spliceInHeld]
  · exact (pendSplice_ready hready hx hskip).working ⟨hpaced.pacer, hpaced.wait, hpaced.record⟩

end Sys2Proof.Machine
end

section
/-! SUPPORT. The laws through holds, releases, the engine reset, suspend and resume, the strobe and the
survey (R88 to R100, R117 to R122, R129 to R137, R148 to R152). -/

namespace Sys2Proof.Machine

open Safety

/-! ## Engine states and latches (R83, R88, R89, R90) -/

/-- Of the engine only what no phase speaks of changes: a latch, the pending stop, a run flag. -/
theorem Working.latch {q : List LinkFrame} {s : State} (h : Working q s) {e : Engine}
    (ho : e.options = s.engine.options) (hs : e.snapshots = s.engine.snapshots)
    (hf : SameFrames s.engine e) : Working q (s.withEngine e) :=
  h.withEngine (h.engine.congr ho hs) hf

theorem latchRelease_working {q : List LinkFrame} {s : State} (h : Working q s) :
    Working q (latchRelease s) := h.latch rfl rfl (by constructor <;> rfl)

theorem latchAdvance_working {q : List LinkFrame} {s : State} (h : Working q s) :
    Working q (latchAdvance s) := h.latch rfl rfl (by constructor <;> rfl)

/-- Two live engine states with the same pacer, wait and kept record: RUNNING and HELD from RUNNING,
WAITING and HELD from WAITING (R89, R90). -/
structure SamePace (m m' : EngineState) : Prop where
  live    : m'.isLive = true
  running : (m' = .running ∨ m' = .held .running) ↔ (m = .running ∨ m = .held .running)
  waiting : (m = .waiting ∨ m = .held .waiting) → (m' = .waiting ∨ m' = .held .waiting)
  record  : m' ≠ .held .boundary ↔ m ≠ .held .boundary

/-- A live run frozen or going on (R89, R90). -/
theorem setMode_working {q : List LinkFrame} {s : State} (h : Working q s)
    (hl : s.engine.mode.isLive = true) {m : EngineState} (hm : SamePace s.engine.mode m) :
    Working q (s.withEngine { s.engine with mode := m }) :=
  have hb := below_of_isLive h hl
  { h.congr (t := s.withEngine { s.engine with mode := m }) (by constructor <;> rfl) h.link with
    below := fun _ => hb
    phase := by
      rcases h.phase with hp | ⟨hf, hp⟩ | hp
      · exact absurd hl (by simp [hp.notLive])
      · exact Or.inr (Or.inl ⟨hf.transfer ⟨⟨rfl, rfl⟩, rfl, rfl, rfl, rfl, rfl⟩ hm.live,
          hp.pacer.trans hm.running.symm, fun hw => hm.waiting (hp.wait hw),
          hp.record.trans hm.record.symm⟩)
      · exact Or.inr (Or.inr
          { live := hp.live
            stack := hp.stack
            splice := hp.splice
            record := hp.record
            wait := hp.wait
            swap := hp.swap
            kind := hp.kind
            mode := hm.running.2 hp.mode
            pacer := hp.pacer
            position := hp.position }) }

/-- A live run in WAITING or in HELD from elsewhere than RUNNING is a rotation run (R155). -/
theorem Working.ready_of_mode {q : List LinkFrame} {s : State} (h : Working q s)
    (hl : s.engine.mode.isLive = true)
    (hm : s.engine.mode ≠ .running ∧ s.engine.mode ≠ .held .running) : Ready q s ∧ Paced s := by
  rcases h.phase with hp | ⟨hf, _⟩ | hp
  · exact absurd hl (by simp [hp.notLive])
  · exact h.rotating hf.rotationLive
  · exact absurd hp.mode (by simp [hm])

/-- CONTINUE from each held origin (R90). -/
theorem continueFrom_working {q : List LinkFrame} {s : State} (h : Working q s) {o : HeldOrigin}
    (ho : s.engine.mode = .held o) : Working q (continueFrom o s) := by
  have hl : s.engine.mode.isLive = true := by rw [ho]; rfl
  cases o with
  | running => exact setMode_working h hl (by rw [ho]; constructor <;> simp [EngineState.isLive])
  | waiting =>
    unfold continueFrom
    dsimp only
    split
    · obtain ⟨hready, hpaced⟩ := h.ready_of_mode hl (by simp [ho])
      exact startWaitingStep_working hready hpaced (by simp [ho])
    · exact setMode_working h hl (by rw [ho]; constructor <;> simp [EngineState.isLive])
  | boundary =>
    obtain ⟨hready, _⟩ := h.ready_of_mode hl (by simp [ho])
    exact stepStart_working
      (hready.congr (t := s.withEngine { s.engine with mode := .running }) (by constructor <;> rfl)
        ⟨⟨rfl, rfl⟩, rfl, rfl, rfl, rfl, rfl⟩ h.link rfl)

theorem released_working {q : List LinkFrame} {s : State} (h : Working q s)
    (hr : s.engine.takesRelease = true) : Working q (released s) := by
  have hlive : s.engine.rotationLive = true := by
    simp only [Engine.takesRelease, Bool.and_eq_true] at hr
    exact hr.1
  unfold released
  split
  next hm =>
    obtain ⟨hready, hpaced⟩ := h.rotating hlive
    exact startWaitingStep_working hready hpaced (by simp [hm])
  · exact latchRelease_working h

/-- ARMED and IDLE are changed into one another with no run live (R76, R77). -/
theorem setIdle_working {q : List LinkFrame} {s : State} (h : Working q s) {e : Engine}
    (hl : s.engine.mode.isLive = false) (hne : s.engine.mode ≠ .lockout) (he : e.Sound)
    (hm : e.mode.isLive = false) (harm : e.mode = .armed → Playable s.store s.rotation.active)
    (hf : SameFrames s.engine { e with mode := s.engine.mode }) : Working q (s.withEngine e) := by
  have hrest := h.resting hl
  exact
    { store := h.store
      rotation := h.rotation
      trigger := h.trigger
      checker := h.checker
      engine := he
      link := h.link
      unpacked := h.unpacked
      below := fun _ => h.below hne
      phase := Or.inl
        { live := hf.live.trans hrest.live
          stack := hf.stack.trans hrest.stack
          splice := hf.splice.trans hrest.splice
          record := hf.record.trans hrest.record
          wait := hrest.wait
          swap := hrest.swap
          notLive := hm
          pacer := hrest.pacer
          position := hrest.position
          armed := harm } }

theorem stopped_working {q : List LinkFrame} {s : State} (h : Working q s)
    (hne : s.engine.mode ≠ .lockout) (c : StopCause) : Working q (stopped c s) := by
  unfold stopped
  split
  next hm =>
    exact setIdle_working h (by rw [hm]; rfl) hne (h.engine.congr rfl rfl) rfl
      (fun harm => by cases harm) (by constructor <;> rfl)
  · exact runEnd_working h.toSteady fun _ => h.below hne

/-! ## The engine reset (R100) -/

theorem engineReset_checker_sound {c : Checker} (h : c.Sound) : c.engineReset.Sound where
  log := Nat.zero_le _
  counts n := by simp [Checker.engineReset, Checker.reset]
  failing := Nat.zero_le _
  threshold := h.threshold
  limit := h.limit

/-- An engine reset empties the quarantine set (R146). -/
theorem engineReset_checker_below {c : Checker} (h : c.Sound) : c.engineReset.Below := by
  have hzero : c.engineReset.quarantinedCount = 0 := laneCount_zero
  rw [Checker.Below, hzero]
  exact h.limit.1

theorem resetBlocks_working {q : List LinkFrame} {s : State} (h : Working q s)
    (hl : s.engine.mode.isLive = false) : Working q (resetBlocks s) where
  store := h.store
  rotation := h.rotation
  trigger := ⟨h.trigger.names, h.trigger.skipA, h.trigger.skipB⟩
  checker := engineReset_checker_sound h.checker
  engine := ⟨⟨Nat.zero_le _, Nat.zero_le _⟩, h.engine.snapshots⟩
  link := h.link
  unpacked := h.unpacked
  below _ := engineReset_checker_below h.checker
  phase := Or.inl
    { live := rfl
      stack := rfl
      splice := rfl
      record := rfl
      wait := rfl
      swap := (h.resting hl).swap
      notLive := rfl
      pacer := rfl
      position := rfl
      armed := fun harm => by cases harm }

theorem engineReset_working {q : List LinkFrame} {s : State} (h : Working q s) :
    Working q (engineReset s) := by
  unfold engineReset
  split
  next hl =>
    exact resetBlocks_working (runEnd_working h.toSteady fun _ => below_of_isLive h hl)
      (runEnd_isLive _ _)
  next hl => exact resetBlocks_working h (by simpa using hl)

/-! ## Suspend (R117, R118) -/

theorem putSnapshot_sound {e : Engine} (h : e.Sound) (n : SnapshotId) {x : Snapshot} (hx : x.Sound) :
    ({ e with snapshots := e.snapshots.set n.val x } : Engine).Sound := by
  refine ⟨h.options, fun m => ?_⟩
  by_cases hnm : n = m
  · subst hnm
    simpa using hx
  · have hval : n.val ≠ m.val := fun hv => hnm (Fin.ext hv)
    simpa [Vector.getElem_set, hval] using h.snapshots m

theorem putSnapshot_working {q : List LinkFrame} {s : State} (h : Working q s) (n : SnapshotId)
    {x : Snapshot} (hx : x.Sound) : Working q (s.putSnapshot n x) :=
  h.withEngine (putSnapshot_sound h.engine n hx) (by constructor <;> rfl)

theorem none_sound : Snapshot.none.Sound := by
  obtain ⟨hformed, hfailing, hoptions⟩ := none_snapshot_lawful
  exact ⟨hformed, hfailing, hoptions⟩

/-- What a suspend saves is formed: the frames' kinds are those of the frames (R118). -/
theorem savedRun_sound {s : State} (h : Framed s) (hc : s.checker.Sound) (he : s.engine.Sound) :
    s.savedRun.Sound := by
  refine ⟨⟨fun hempty => (by cases hempty), fun _ => ?_⟩, hc.failing, he.options⟩
  obtain ⟨hform, _⟩ := h.frames
  obtain ⟨f, hf, _⟩ := h.tower
  have hlen : s.engine.frames.length ≤ 5 := by
    have := h.room
    rw [frames_of_live hf, List.length_append, List.length_reverse, List.length_singleton]
    omega
  have hne : s.engine.frames ≠ [] := by simp [frames_of_live hf]
  show snapFormOk (s.engine.frames.map s.snapFrame) = true
  revert hform hlen hne
  cases s.engine.frames with
  | nil => intro _ _ hne; exact absurd rfl hne
  | cons g rest =>
    intro hform hlen _
    simp only [baseThenSplices, Bool.and_eq_true, List.all_eq_true] at hform
    simp only [List.length_cons] at hlen
    simp only [snapFormOk, List.map_cons, List.length_map, Bool.and_eq_true, List.all_eq_true,
      List.forall_mem_map, decide_eq_true_eq]
    refine ⟨⟨by simp [State.snapFrame, hform.1], fun k hk => ?_⟩, by omega⟩
    have := hform.2 k hk
    rw [Option.isNone_iff_eq_none] at this
    simp [State.snapFrame, this]

/-! ## Resume (R120 to R122) -/

theorem not_stale_of_staleAt {s : State} {k : Nat} {fs : List SnapFrame}
    (h : s.staleAt k fs = none) : ∀ f ∈ fs, s.staleFrame f = false := by
  induction fs generalizing k with
  | nil => simp
  | cons g rest ih =>
    rw [State.staleAt] at h
    split at h
    · cases h
    next hg => exact List.forall_mem_cons.2 ⟨by simpa using hg, ih h⟩

theorem consistent_of_inconsistentAt {s : State} {k : Nat} {l : List SnapFrame} {x : SnapFrame}
    (h : s.inconsistentAt k (l ++ [x]) = none) :
    (∀ f ∈ l, s.consistent f false = true) ∧ s.consistent x true = true := by
  induction l generalizing k with
  | nil =>
    simp only [List.nil_append, State.inconsistentAt] at h
    split at h
    next hx => exact ⟨by simp, hx⟩
    · cases h
  | cons g rest ih =>
    have hmore : (rest ++ [x]).isEmpty = false := by simp
    simp only [List.cons_append, State.inconsistentAt, hmore] at h
    split at h
    next hg =>
      obtain ⟨hrest, hx⟩ := ih h
      exact ⟨List.forall_mem_cons.2 ⟨hg, hrest⟩, hx⟩
    · cases h

/-- A form with a frame more: the frame is a SPLICE over a form (R121). -/
theorem snapFormOk_append {l : List SnapFrame} {x : SnapFrame} (h : snapFormOk (l ++ [x]) = true)
    (hl : l ≠ []) : snapFormOk l = true ∧ x.kind = .splice := by
  cases l with
  | nil => exact absurd rfl hl
  | cons f l =>
    simp only [snapFormOk, List.cons_append, List.all_append, List.length_append, List.all_cons,
      List.all_nil, Bool.and_true, Bool.and_eq_true, decide_eq_true_eq, List.length_singleton] at h ⊢
    obtain ⟨⟨hbase, hsplices, hx⟩, hlen⟩ := h
    exact ⟨⟨⟨hbase, hsplices⟩, by omega⟩, hx⟩

/-- A consistent frame of a defined pattern is sound in the run (R121). -/
theorem runFrame_sound {s : State} {f : SnapFrame} {last : Bool}
    (hs : s.staleFrame f = false) (hc : s.consistent f last = true) :
    FrameSound s f.runFrame ∧ (f.kind = .base → f.runFrame.base.isSome = true) ∧
      (f.kind = .splice → f.runFrame.base = none) ∧ (last = false → f.skip ≤ 255) := by
  have hdef : (s.store.content f.pattern).isDefined = true := by
    simp only [State.staleFrame, Bool.or_eq_false_iff] at hs
    simpa using hs.1
  simp only [State.consistent, Bool.and_eq_true, Bool.or_eq_true] at hc
  obtain ⟨hc, hskip⟩ := hc
  have hskip : last = false → f.skip ≤ 255 := fun hl => by simpa [hl] using hskip
  cases hk : f.kind with
  | base =>
    rw [hk] at hc
    simp only [State.baseConsistent] at hc
    cases hslot : SlotIndex.ofByte? f.slot with
    | none => simp [hslot] at hc
    | some i =>
      simp only [hslot, Bool.and_eq_true, decide_eq_true_eq] at hc
      obtain ⟨⟨⟨⟨⟨hcount, hpat⟩, hone⟩, hdwell⟩, _⟩, hsuited⟩ := hc
      have hbase : f.runFrame.base = some ⟨i, f.passesLeft.toNat⟩ := by
        simp [SnapFrame.runFrame, hk, hslot]
      refine ⟨(frameSound_base hbase).2 ⟨hdef, ?_, hcount, hpat, hone, hdwell⟩, fun _ => ?_,
        fun hsp => by simp at hsp, hskip⟩
      · simp only [State.directionOf, hbase]
        exact hsuited
      · rw [hbase]
        rfl
  | splice =>
    rw [hk] at hc
    simp only [State.spliceConsistent, Bool.and_eq_true, decide_eq_true_eq] at hc
    have hbase : f.runFrame.base = none := by simp [SnapFrame.runFrame, hk]
    have hpos : f.runFrame.pos = ⟨f.pos.index, .ascending⟩ := by rw [← hc.2]; rfl
    refine ⟨(frameSound_splice hbase).2 ⟨hdef, ?_⟩, fun hb => by simp at hb, fun _ => hbase, hskip⟩
    rw [hpos]
    exact suited_forward hc.1

/-- The frames of an accepted snapshot are a tower: the last live over the others (R122). -/
theorem tower_of_snapshot {s : State} (l : List SnapFrame) (x : SnapFrame)
    (hform : snapFormOk (l ++ [x]) = true) (hstale : ∀ f ∈ l ++ [x], s.staleFrame f = false)
    (hl : ∀ f ∈ l, s.consistent f false = true) {last : Bool} (hx : s.consistent x last = true) :
    Tower s x.runFrame (l.map SnapFrame.saved).reverse := by
  induction l using List.reverseRecOn generalizing x last with
  | nil =>
    obtain ⟨hsound, hbase, _⟩ := runFrame_sound (hstale x (by simp)) hx
    refine ⟨hsound, hbase ?_⟩
    simpa [snapFormOk] using hform
  | append_singleton l y ih =>
    obtain ⟨hsound, _, hsplice, _⟩ := runFrame_sound (hstale x (by simp)) hx
    obtain ⟨hform', hxk⟩ := snapFormOk_append hform (by simp)
    have hy := hl y (by simp)
    obtain ⟨_, _, _, hyskip⟩ := runFrame_sound (hstale y (by simp)) hy
    have hrev : ((l ++ [y]).map SnapFrame.saved).reverse =
        y.saved :: (l.map SnapFrame.saved).reverse := by simp
    rw [hrev]
    exact ⟨hsound, hsplice hxk, hyskip rfl, ih y hform'
      (fun f hf => hstale f (List.mem_append_left _ hf)) (fun f hf => hl f (List.mem_append_left _ hf))
      hy⟩

theorem resume_checker_sound {c : Checker} (h : c.Sound) {n : Nat} (hn : n ≤ 65535) :
    (c.resume n).Sound := { h with failing := hn }

theorem base_counts {s : State} {f : SnapFrame} {last : Bool} (hk : f.kind = .base)
    (hc : s.consistent f last = true) : 0 < s.rotation.active.count := by
  simp only [State.consistent, hk, State.baseConsistent, Bool.and_eq_true] at hc
  cases hslot : SlotIndex.ofByte? f.slot with
  | none => simp [hslot] at hc
  | some i =>
    simp only [hslot, Bool.and_eq_true, decide_eq_true_eq] at hc
    omega

/-- What a snapshot that no check of RESUME refuses is resumed on: a tower of its frames, with room,
over a rotation that has slots (R120). -/
structure Resumable (s : State) (x : Snapshot) (l : List SnapFrame) (y : SnapFrame) : Prop where
  frames : x.frames = l ++ [y]
  tower  : Tower s y.runFrame (l.map SnapFrame.saved).reverse
  counts : 0 < s.rotation.active.count
  room   : l.length ≤ 4

theorem resumable_of_checks {s : State} {x : Snapshot} (hform : snapFormOk x.frames = true)
    (hr : s.resumeRefusal x = none) : ∃ l y, Resumable s x l y := by
  have hne : x.frames ≠ [] := by
    intro hnil
    simp [hnil, snapFormOk] at hform
  obtain ⟨l, y, hly⟩ : ∃ l y, x.frames = l ++ [y] :=
    ⟨_, _, (List.dropLast_append_getLast hne).symm⟩
  simp only [State.resumeRefusal] at hr
  split at hr
  · cases hr
  split at hr
  · cases hr
  next hstale =>
    rw [Option.map_eq_none_iff] at hr
    have hstale := not_stale_of_staleAt hstale
    rw [hly] at hform hstale hr
    obtain ⟨hl, hy⟩ := consistent_of_inconsistentAt hr
    refine ⟨l, y, hly, tower_of_snapshot l y hform hstale hl hy, ?_, ?_⟩
    all_goals
      cases l with
      | nil => ?_
      | cons f l => ?_
    · exact base_counts (by simpa [snapFormOk] using hform) hy
    · refine base_counts (f := f) ?_ (hl f (by simp))
      simp only [snapFormOk, List.cons_append, Bool.and_eq_true, decide_eq_true_eq] at hform
      exact hform.1.1
    · exact Nat.zero_le _
    · simp only [snapFormOk, List.cons_append, Bool.and_eq_true, decide_eq_true_eq,
        List.length_append, List.length_singleton] at hform
      simpa using hform.2

/-- A resume that no check refuses restores a live rotation run (R122). -/
theorem resumeRun_working {q : List LinkFrame} {s : State} (h : Working q s) (n : SnapshotId)
    (hm : s.engine.mode = .idle) (hne : s.engine.snapshots[n].state ≠ .empty)
    (hr : s.resumeRefusal s.engine.snapshots[n] = none) :
    Working q (resumeRun n s.engine.snapshots[n] s) := by
  have hsnap := h.engine.snapshots n
  have hrest := h.resting (by rw [hm]; rfl)
  have hbelow : s.checker.Below := h.below (by simp [hm])
  generalize s.engine.snapshots[n] = x at hne hr hsnap ⊢
  obtain ⟨l, y, hx⟩ := resumable_of_checks (hsnap.formed.2 hne) hr
  have hlive : (s.engine.resume x).live = some y.runFrame := by simp [Engine.resume, hx.frames]
  have hstack : (s.engine.resume x).stack = (l.map SnapFrame.saved).reverse := by
    simp [Engine.resume, hx.frames]
  apply stepStart_working
  exact
    { store := h.store
      rotation := h.rotation
      trigger := h.trigger
      checker := resume_checker_sound h.checker hsnap.failing
      engine := putSnapshot_sound (e := s.engine.resume x) ⟨hsnap.options, h.engine.snapshots⟩ n
        none_sound
      link := h.link
      unpacked := h.unpacked
      below := hbelow
      framed :=
        { isLive := rfl
          kind := rfl
          position := hrest.position
          playable := h.rotation.active.resolve_left (Nat.ne_of_gt hx.counts)
          splice := fun z hz => by cases hz
          tower := ⟨y.runFrame, hlive, by
            show Tower _ _ (s.engine.resume x).stack
            rw [hstack]
            exact hx.tower.congr ⟨rfl, rfl⟩⟩
          room := by
            show (s.engine.resume x).stack.length + 0 ≤ 4
            rw [hstack]
            simpa using hx.room } }

end Sys2Proof.Machine
end

section
/-! SUPPORT. The laws through the strobe and the survey (R129 to R137, R148 to R154), and under a change
of the pattern store (R21 to R37). -/

namespace Sys2Proof.Machine

open Safety

/-! ## The strobe (R129 to R137) -/

theorem log_sound {c : Checker} (h : c.Sound) (r : FailRec) : (c.log r).Sound := by
  unfold Checker.log
  split
  next hlt =>
    refine { h with log := ?_ }
    simp only [List.length_append, List.length_singleton]
    exact hlt
  · exact { h with }

theorem log_settings (c : Checker) (r : FailRec) :
    (c.log r).quarantine = c.quarantine ∧ (c.log r).quarantineLimit = c.quarantineLimit := by
  unfold Checker.log
  split <;> exact ⟨rfl, rfl⟩

/-- The limit is a matter of the quarantine set and the limit alone. -/
theorem below_congr {c d : Checker} (h : c.Below) (hset : d.quarantine = c.quarantine)
    (hlimit : d.quarantineLimit = c.quarantineLimit) : d.Below := by
  rw [Checker.Below, Checker.quarantinedCount, hset, hlimit]
  exact h

theorem log_below {c : Checker} (h : c.Below) (r : FailRec) : (c.log r).Below := by
  obtain ⟨hset, hlimit⟩ := log_settings c r
  exact below_congr h hset hlimit

theorem countStrobe_sound {c : Checker} (h : c.Sound) (driven : Lane → Bool) (m f : LaneSet) :
    ({ c with
      mismatchCounts := c.countMismatches m
      faultCounts := c.countFaults driven f } : Checker).Sound := by
  refine ⟨?_, fun n => ?_, ?_, ?_, ?_⟩ <;> dsimp only
  case refine_1 => exact h.log
  case refine_3 => exact h.failing
  case refine_4 => exact h.threshold
  case refine_5 => exact h.limit
  obtain ⟨hmis, hfault⟩ := h.counts n
  simp only [Checker.countMismatches, Checker.countFaults, Config.maxMismatch, Config.maxFault,
    Fin.getElem_fin, Vector.getElem_ofFn]
  constructor
  · split
    · exact Nat.min_le_right _ _
    · exact hmis
  · split
    · exact Nat.min_le_right _ _
    · split
      · exact Nat.zero_le _
      · exact hfault

theorem countStrobe_working {q : List LinkFrame} {s : State} (h : Working q s) (m f : LaneSet) :
    Working q (countStrobe m f s) := by
  unfold countStrobe
  exact h.withChecker (countStrobe_sound h.checker s.drives m f) fun hm =>
    below_congr (h.below hm) rfl rfl

/-- The failing-step count increased (R131 step 1). -/
def Checker.countFailing (c : Checker) : Checker :=
  { c with failingSteps := min (c.failingSteps + 1) Config.maxFailing }

theorem countFailing_sound {c : Checker} (h : c.Sound) : c.countFailing.Sound :=
  { h with failing := Nat.min_le_right _ Config.maxFailing }

theorem failingStep_working {q : List LinkFrame} {s : State} (h : Working q s) (m f o : LaneSet) :
    Working q (failingStep m f o s) := by
  have hlog : ∀ r, Working q (logFailingStep r s) := fun r =>
    h.withChecker (log_sound (countFailing_sound h.checker) r) fun hm =>
      log_below (c := s.checker.countFailing) (h.below hm) r
  have hnotify : ∀ r t, Working q t → Working q (notifyFirstFail r t) := by
    intro r t ht
    unfold notifyFirstFail
    split
    · exact ht
    · exact (ht.withChecker (c := { t.checker with firstFailNotified := true })
        { ht.checker with } ht.below).notice _ _
  have htest : ∀ t, Working q t → Working q (testStopOnFail t) := by
    intro t ht
    unfold testStopOnFail
    split
    · unfold Engine.askFailLimit
      split
      · exact ht.latch rfl rfl (by constructor <;> rfl)
      · exact ht.latch rfl rfl (by constructor <;> rfl)
    · exact ht
  exact htest _ (hnotify _ _ (hlog _))

/-- A lane added to the quarantine set keeps every law but the limit, and the limit itself
(R135). -/
theorem quarantineLane_keeps {q : List LinkFrame} {s : State} (h : Steady q s) (hp : RunPhase s)
    (o : LaneSet) (n : Lane) :
    Steady q (quarantineLane o s n) ∧ RunPhase (quarantineLane o s n) := by
  have he : ∀ e : Engine, e.Sound → ∀ a, (e.quarantined a).Sound ∧ SameFrames e (e.quarantined a) := by
    intro e he a
    unfold Engine.quarantined
    cases a
    · exact ⟨he.congr rfl rfl, by constructor <;> rfl⟩
    · exact ⟨he.congr rfl rfl, by constructor <;> rfl⟩
  obtain ⟨hengine, hframes⟩ := he s.engine h.engine
    ((({ s.checker with quarantine := s.checker.quarantine ||| oneLane n } : Checker).log
      (s.failRec (.quarantine n) o)).quarantineAction)
  refine ⟨?_, runPhase_congr hp ⟨rfl, rfl, rfl, rfl, rfl, rfl, rfl, hframes.mode, hframes.kind,
    hframes.live, hframes.stack, hframes.splice, hframes.record⟩⟩
  exact
    { store := h.store
      rotation := h.rotation
      trigger := h.trigger
      checker := log_sound (c := { s.checker with quarantine := s.checker.quarantine ||| oneLane n })
        { h.checker with } _
      engine := hengine
      link := h.link.notice _ _
      unpacked := h.unpacked }

/-- Every qualifying lane quarantined: the number stays below the limit, or the part locks out
(R137). -/
theorem quarantineAll_working {q : List LinkFrame} {s : State} (h : Working q s) (o : LaneSet)
    (lanes : List Lane) : Working q (quarantineAll o lanes s) := by
  have hfold : ∀ t, Steady q t → RunPhase t →
      Steady q (lanes.foldl (quarantineLane o) t) ∧ RunPhase (lanes.foldl (quarantineLane o) t) := by
    induction lanes with
    | nil => exact fun t ht hp => ⟨ht, hp⟩
    | cons n lanes ih =>
      intro t ht hp
      obtain ⟨ht', hp'⟩ := quarantineLane_keeps ht hp o n
      exact ih _ ht' hp'
  obtain ⟨hsteady, hphase⟩ := hfold s h.toSteady h.phase
  unfold quarantineAll
  dsimp only
  split
  · exact enterLockout_working hsteady
  next hunder =>
    refine { hsteady with below := fun hm => ?_, phase := hphase }
    cases lanes with
    | nil => exact h.below hm
    | cons n lanes =>
      have hlimit := by simpa using hunder
      exact Nat.lt_of_not_le (of_decide_eq_false hlimit)

theorem judge_working {q : List LinkFrame} {s : State} (h : Working q s) (m f o : LaneSet) :
    Working q (judge m f o s) := by
  have hcount := countStrobe_working h m f
  unfold judge
  dsimp only
  refine quarantineAll_working ?_ _ _
  split
  · exact hcount
  · exact failingStep_working hcount m f o

/-- A pacer that runs where it ran, and a wait that runs where it ran, keep the phase. -/
theorem runPhase_withTiming {s : State} (h : RunPhase s) {t : Timing}
    (hp : t.pacer.isSome = s.timing.pacer.isSome)
    (hw : t.waitTimer.running = s.timing.waitTimer.running) : RunPhase (s.withTiming t) := by
  have hwait : t.waitTimer.running = true → s.timing.waitTimer.running = true := fun ht => by
    rw [← hw, ht]
  rcases h with h | ⟨hf, hpaced⟩ | h
  · exact Or.inl
      { live := h.live
        stack := h.stack
        splice := h.splice
        record := h.record
        wait := hw.trans h.wait
        swap := h.swap
        notLive := h.notLive
        pacer := Option.not_isSome_iff_eq_none.1 (by rw [State.withTiming_timing, hp, h.pacer]; simp)
        position := h.position
        armed := h.armed }
  · refine Or.inr (Or.inl ⟨hf.transfer ⟨⟨rfl, rfl⟩, rfl, rfl, rfl, rfl, rfl⟩ hf.isLive, ?_,
      fun ht => hpaced.wait (hwait ht), hpaced.record⟩)
    show t.pacer.isSome = true ↔ _
    rw [hp]
    exact hpaced.pacer
  · exact Or.inr (Or.inr
      { live := h.live
        stack := h.stack
        splice := h.splice
        record := h.record
        wait := hw.trans h.wait
        swap := h.swap
        kind := h.kind
        mode := h.mode
        pacer := hp.trans h.pacer
        position := h.position })

theorem reachStrobe_working {q : List LinkFrame} {s : State} (h : Working q s) :
    Working q (reachStrobe s) :=
  { h.congr (t := reachStrobe s) (by constructor <;> rfl) h.link with
    below := h.below
    phase := runPhase_withTiming h.phase Option.isSome_map rfl }

theorem writeEntry_working {q : List LinkFrame} {s : State} (h : Working q s) (a : Assembly) :
    Working q (writeEntry a s) := by
  unfold writeEntry
  split
  · exact h.withSurvey rfl rfl
  · exact h

/-! ## The survey (R148 to R154) -/

/-- A survey step start at a participant, outside a rotation run (R150). -/
theorem surveyStepStart_working {q : List LinkFrame} {s : State} (h : Steady q s)
    (hb : s.checker.Below) (hf : Frameless s) (hk : s.engine.runKind = .survey)
    (hm : s.engine.mode = .running ∨ s.engine.mode = .held .running) {n : Lane}
    (hn : hasLane s.survey.participants n = true) : Working q (surveyStepStart n s) :=
  { h.congr (t := surveyStepStart n s) (by constructor <;> rfl) h.link with
    below := fun _ => hb
    phase := Or.inr (Or.inr
      { live := hf.live
        stack := hf.stack
        splice := hf.splice
        record := hf.record
        wait := hf.wait
        swap := hf.swap
        kind := hk
        mode := hm
        pacer := rfl
        position := hn }) }

theorem Working.surveying {q : List LinkFrame} {s : State} (h : Working q s)
    (hl : s.engine.mode.isLive = true) (hk : s.engine.runKind = .survey) : Surveying s := by
  rcases h.phase with hp | ⟨hf, _⟩ | hp
  · exact absurd hl (by simp [hp.notLive])
  · exact absurd hf.kind (by simp [hk])
  · exact hp

theorem surveyComplete_working {q : List LinkFrame} {s : State} (h : Steady q s)
    (hb : s.checker.Below) : Working q (surveyComplete s) := by
  have hlog : ∀ (rs : List FailRec) (c : Checker), c.Sound → c.Below →
      (rs.foldl Checker.log c).Sound ∧ (rs.foldl Checker.log c).Below := by
    intro rs
    induction rs with
    | nil => exact fun c hc hcb => ⟨hc, hcb⟩
    | cons r rs ih => exact fun c hc hcb => ih _ (log_sound hc r) (log_below hcb r)
  obtain ⟨hchecker, hbelow⟩ := hlog s.survey.comparison s.checker h.checker hb
  unfold surveyComplete compareMaps
  rw [foldl_handRecord]
  refine runEnd_working ?_ fun _ => hbelow
  exact
    { store := h.store
      rotation := h.rotation
      trigger := h.trigger
      checker := hchecker
      engine := h.engine.congr rfl rfl
      link := h.link
      unpacked := h.unpacked }

/-- The end of a survey step: the next participant, or the survey's end (R152). -/
theorem surveyStepEnd_working {q : List LinkFrame} {s : State} (h : Working q s)
    (hm : s.engine.mode = .running) (hk : s.engine.runKind = .survey) :
    Working q (surveyStepEnd s) := by
  have hl : s.engine.mode.isLive = true := by rw [hm]; rfl
  have hsurvey := h.surveying hl hk
  have hb := below_of_isLive h hl
  have hcount : Steady q (countStep s) :=
    h.congr (t := countStep s) (by constructor <;> rfl) h.link
  unfold surveyStepEnd
  dsimp only
  split
  · exact runEnd_working hcount fun _ => hb
  · split
    next n hn =>
      obtain ⟨d, _, hnext⟩ := Option.bind_eq_some_iff.1 hn
      have hn : n ∈ lanesOf s.survey.participants := List.mem_of_find?_eq_some hnext
      refine surveyStepStart_working hcount hb ?_ hk (Or.inl hm) ((mem_lanesOf _ n).1 hn)
      exact ⟨hsurvey.live, hsurvey.stack, hsurvey.splice, hsurvey.record, hsurvey.wait, hsurvey.swap⟩
    · exact surveyComplete_working hcount hb

/-- A survey's start from IDLE at one of its participants (R149). -/
theorem startSurvey_working {q : List LinkFrame} {s : State} (h : Working q s)
    (hm : s.engine.mode = .idle) {l : LaneSet} (t : TimingId) {n : Lane} (hn : hasLane l n = true) :
    Working q (startSurvey l t n s) := by
  have hrest := h.resting (by rw [hm]; rfl)
  have hb := h.below (by simp [hm])
  have hclear : ({ s.checker with firstFailNotified := false } : Checker).Sound :=
    { h.checker with }
  have hchecker : ∀ clear, (s.checker.startSurvey clear).Sound ∧
      (s.checker.startSurvey clear).Below := by
    intro clear
    cases clear with
    | true => exact ⟨{ clearLog_sound h.checker with failing := Nat.zero_le _ }, hb⟩
    | false => exact ⟨hclear, hb⟩
  obtain ⟨hsound, hbelow⟩ := hchecker s.engine.options.clearAtStart
  have hsteady : Steady q
      { s with
        engine := s.engine.startSurvey
        survey := s.survey.begin l t
        checker := s.checker.startSurvey s.engine.options.clearAtStart } :=
    { store := h.store
      rotation := h.rotation
      trigger := h.trigger
      checker := hsound
      engine := h.engine.congr rfl rfl
      link := h.link
      unpacked := h.unpacked }
  exact surveyStepStart_working hsteady hbelow
    ⟨hrest.live, hrest.stack, hrest.splice, hrest.record, hrest.wait, hrest.swap⟩ rfl (Or.inl rfl) hn

/-! ## What names a pattern (R30) -/

theorem rotation_names_iff (r : Rotation) (p : PatternId) :
    r.names p = true ↔ ∃ i : SlotIndex, i.val < r.count ∧ r.slots[i].pattern = p := by
  simp [Rotation.names]

theorem frameNames_iff (e : Engine) (p : PatternId) :
    e.frameNames p = true ↔ (∃ f, e.live = some f ∧ f.pattern = p) ∨
      ∃ g ∈ e.stack, g.frame.pattern = p := by
  simp [Engine.frameNames, Option.any_eq_true]

theorem spliceNames_iff (e : Engine) (p : PatternId) :
    e.spliceNames p = true ↔ ∃ x, e.pendingSplice = some x ∧ x.pattern = p := by
  simp [Engine.spliceNames, Option.any_eq_true]

theorem trigCfg_names_iff (t : TrigCfg) (p : PatternId) :
    t.names p = true ↔ ∃ x : Splice, t.action = .splice x ∧ x.pattern = p := by
  unfold TrigCfg.names
  cases t.action <;> simp

/-- The second list of R30: what the run and the triggers name. -/
theorem runNames_iff (s : State) (p : PatternId) :
    s.runNames p = true ↔
      s.rotation.active.names p = true ∨ s.engine.frameNames p = true ∨
        s.engine.spliceNames p = true ∨ s.trigger.names p = true := by
  simp [State.runNames, or_assoc]

theorem isNamed_iff (s : State) (p : PatternId) :
    s.isNamed p = true ↔ s.runNames p = true ∨ s.rotation.pendingRot.names p = true := by
  simp [State.isNamed]

/-! ## Another pattern store -/

/-- A store with a lawful directory in which every pattern that `s` names and has defined is defined
still, with its length. -/
structure StoreFits (s : State) (t : Store) : Prop where
  sound : t.Sound
  keeps : ∀ p : PatternId, s.isNamed p = true → (s.store.content p).isDefined = true →
    (t.content p).isDefined = true ∧ (t.content p).length = (s.store.content p).length

theorem playable_of_names {t u : Store} {r : Rotation} (h : Playable t r)
    (hk : ∀ p, r.names p = true → (t.content p).isDefined = true →
      (u.content p).isDefined = true) : Playable u r := by
  obtain ⟨hpos, hle, hslots⟩ := h
  refine ⟨hpos, hle, fun i hi => ?_⟩
  obtain ⟨hdef, hdwell⟩ := hslots i hi
  exact ⟨hk _ ((rotation_names_iff r _).2 ⟨i, hi, rfl⟩) hdef, hdwell⟩

section
variable {s : State} {t : Store} (ht : StoreFits s t)
include ht

theorem StoreFits.active (h : Playable s.store s.rotation.active) : Playable t s.rotation.active :=
  playable_of_names h fun p hn hd =>
    (ht.keeps p ((isNamed_iff s p).2 (Or.inl ((runNames_iff s p).2 (Or.inl hn)))) hd).1

theorem StoreFits.pendingRot (h : Playable s.store s.rotation.pendingRot) :
    Playable t s.rotation.pendingRot :=
  playable_of_names h fun p hn hd => (ht.keeps p ((isNamed_iff s p).2 (Or.inr hn)) hd).1

theorem StoreFits.rotation (h : s.rotation.Sound s.store) : s.rotation.Sound t :=
  ⟨h.active.imp id ht.active, fun hw => ht.pendingRot (h.waiting hw), h.count, h.dwells⟩

theorem StoreFits.trigger (h : s.trigger.Sound s.store) : s.trigger.Sound t :=
  ⟨fun p hn => (ht.keeps p ((isNamed_iff s p).2
    (Or.inl ((runNames_iff s p).2 (Or.inr (Or.inr (Or.inr hn)))))) (h.names p hn)).1,
    h.skipA, h.skipB⟩

theorem StoreFits.frame {f : RunFrame} (hn : s.isNamed f.pattern = true) (h : FrameSound s f) :
    FrameSound (s.withStore t) f := by
  obtain ⟨hdef, hplaced⟩ := h
  obtain ⟨hdef', hlen⟩ := ht.keeps _ hn hdef
  refine ⟨hdef', ?_⟩
  have hlen' : (s.withStore t).lengthOf f = s.lengthOf f := hlen
  simp only [framePlaced, hlen']
  exact hplaced

theorem StoreFits.tower {f : RunFrame} {stack : List SavedFrame} (h : Tower s f stack)
    (hf : s.isNamed f.pattern = true) (hstack : ∀ g ∈ stack, s.isNamed g.frame.pattern = true) :
    Tower (s.withStore t) f stack := by
  induction stack generalizing f with
  | nil =>
    obtain ⟨hsound, hbase⟩ := h
    exact ⟨ht.frame hf hsound, hbase⟩
  | cons g rest ih =>
    obtain ⟨hsound, hbase, hskip, hrest⟩ := h
    obtain ⟨hg, hgs⟩ := List.forall_mem_cons.1 hstack
    exact ⟨ht.frame hf hsound, hbase, hskip, ih hrest hg hgs⟩

theorem StoreFits.framed (h : Framed s) : Framed (s.withStore t) := by
  have hrun : ∀ p, s.runNames p = true → s.isNamed p = true := fun p hp =>
    (isNamed_iff s p).2 (Or.inl hp)
  obtain ⟨f, hf, htower⟩ := h.tower
  exact
    { isLive := h.isLive
      kind := h.kind
      position := h.position
      playable := ht.active h.playable
      splice := fun x hx => by
        obtain ⟨hdef, hskip⟩ := h.splice x hx
        exact ⟨(ht.keeps _ (hrun _ ((runNames_iff s _).2
          (Or.inr (Or.inr (Or.inl ((spliceNames_iff _ _).2 ⟨x, hx, rfl⟩)))))) hdef).1, hskip⟩
      tower := ⟨f, hf, ht.tower htower
        (hrun _ ((runNames_iff s _).2
          (Or.inr (Or.inl ((frameNames_iff _ _).2 (Or.inl ⟨f, hf, rfl⟩))))))
        fun g hg => hrun _ ((runNames_iff s _).2
          (Or.inr (Or.inl ((frameNames_iff _ _).2 (Or.inr ⟨g, hg, rfl⟩)))))⟩
      room := h.room }

theorem StoreFits.phase (h : RunPhase s) : RunPhase (s.withStore t) := by
  rcases h with h | ⟨h, hp⟩ | h
  · exact Or.inl
      { live := h.live
        stack := h.stack
        splice := h.splice
        record := h.record
        wait := h.wait
        swap := h.swap
        notLive := h.notLive
        pacer := h.pacer
        position := h.position
        armed := fun harm => ht.active (h.armed harm) }
  · exact Or.inr (Or.inl ⟨ht.framed h, hp.pacer, hp.wait, hp.record⟩)
  · exact Or.inr (Or.inr
      { live := h.live
        stack := h.stack
        splice := h.splice
        record := h.record
        wait := h.wait
        swap := h.swap
        kind := h.kind
        mode := h.mode
        pacer := h.pacer
        position := h.position })

end

/-- A fitting store in a lawful state at work: operating, with no pack left. -/
theorem Core.withStore {s : State} (h : Core s) {t : Store} (ht : StoreFits s t)
    (ho : s.operating = true) (hp : t.pack = none) : Working s.link.requests (s.withStore t) where
  store := ht.sound
  rotation := ht.rotation h.rotation
  trigger := ht.trigger h.trigger
  checker := h.checker
  engine := h.engine
  link := ⟨h.link, (operating_iff s).1 ho, rfl⟩
  unpacked := hp
  below := h.below
  phase := ht.phase h.phase

theorem Working.withStore {q : List LinkFrame} {s : State} (h : Working q s) {t : Store}
    (ht : StoreFits s t) (hp : t.pack = s.store.pack) : Working q (s.withStore t) := by
  have := h.core.withStore ht ((operating_iff s).2 h.link.power) (hp.trans h.unpacked)
  rwa [h.link.queue] at this

/-! ## The store's own changes (R20 to R37) -/

theorem putContent_content (t : Store) (p q : PatternId) (c : Content) :
    (t.putContent p c).content q = if q = p then c else t.content q := by
  by_cases h : q = p
  · subst h
    simp [Store.content, Store.putContent]
  · have hval : p.val ≠ q.val := fun hv => h (Fin.ext hv.symm)
    simp [Store.content, Store.putContent, h, hval]

/-- A directory's laws are of its contents alone. -/
theorem store_sound_of_content {t u : Store} (h : t.Sound) (hc : ∀ p, u.content p = t.content p) :
    u.Sound := by
  have hext : ∀ p, u.extent? p = t.extent? p := fun p => by simp only [Store.extent?, hc p]
  refine ⟨fun p => hc p ▸ h.inRange p, fun p q hpq e he f hf => ?_⟩
  exact h.apart p q hpq e (hext p ▸ he) f (hext q ▸ hf)

/-- An entry in range written, its extent, if it is stored, apart from the others. -/
theorem putContent_sound {t : Store} (h : t.Sound) {p : PatternId} {c : Content}
    (hc : entryInRange c = true)
    (ha : ∀ n b, c = .stored n b → ∀ q, q ≠ p → ∀ e ∈ t.extent? q,
      b + n ≤ e.base ∨ e.base + e.length ≤ b) : (t.putContent p c).Sound := by
  have hother : ∀ q, q ≠ p → (t.putContent p c).extent? q = t.extent? q := fun q hq => by
    simp only [Store.extent?, putContent_content, if_neg hq]
  have hself : ∀ e ∈ (t.putContent p c).extent? p, c = .stored e.length e.base := fun e he => by
    have := (extent?_eq_some.1 he).1
    rwa [putContent_content, if_pos rfl] at this
  refine ⟨fun q => ?_, fun q r hqr e he f hf => ?_⟩
  · rw [putContent_content]
    split
    · exact hc
    · exact h.inRange q
  · by_cases hq : q = p
    · subst hq
      rw [hother r hqr.symm] at hf
      exact ha _ _ (hself e he) r hqr.symm f hf
    · rw [hother q hq] at he
      by_cases hr : r = p
      · subst hr
        exact (ha _ _ (hself f hf) q hq e he).symm
      · rw [hother r hr] at hf
        exact h.apart q r hqr e he f hf

/-- A pattern's entry written keeps what the state names, where the pattern is not named, or was not
defined before, or keeps its length. -/
theorem storeFits_of_content {s : State} {t : Store} {p : PatternId} {c : Content} (hs : t.Sound)
    (hc : ∀ q, t.content q = if q = p then c else s.store.content q)
    (hp : s.isNamed p = false ∨ s.store.content p = .undefined ∨ c = s.store.content p) :
    StoreFits s t := by
  refine ⟨hs, fun q hn hd => ?_⟩
  rw [hc q]
  split
  next hq =>
    subst hq
    rcases hp with hno | hundef | hsame
    · rw [hno] at hn
      cases hn
    · rw [hundef] at hd
      cases hd
    · rw [hsame]
      exact ⟨hd, rfl⟩
  · exact ⟨hd, rfl⟩

/-- A pattern defined over the extent first fit gives keeps the directory lawful (R21, R23). -/
theorem define_sound {t : Store} (h : t.Sound) {p : PatternId} {n b : Nat} (hn : 1 ≤ n)
    (hf : t.firstFit n = some b) : (t.putContent p (.stored n b)).Sound := by
  obtain ⟨hfree, _⟩ := firstFit_some h hn hf
  have hlast := (hfree (b + n - 1) (by omega) (by omega)).1
  refine putContent_sound h ?_ fun n' b' heq q _ e he => ?_
  · simp only [entryInRange, Bool.and_eq_true, decide_eq_true_eq]
    exact ⟨hn, by omega⟩
  · obtain ⟨rfl, rfl⟩ : n = n' ∧ b = b' := by simpa using heq
    by_contra hover
    have hlen : 1 ≤ e.length := by
      have hin := h.inRange q
      rw [(extent?_eq_some.1 he).1] at hin
      exact (stored_inRange hin).1
    have hbase := (hfree (max b e.base) (by omega) (by omega)).2 q e he
    omega

end Sys2Proof.Machine
end

section
/-! SUPPORT. Every request's body keeps the laws of the device. -/

namespace Sys2Proof.Machine

open Safety

section
variable {q : List LinkFrame} {s : State}

/-! ## Checks -/

/-- The check of LOCKOUT keeps what the request behind it keeps. -/
theorem unlessLocked_working (h : Working q s) {k : Served}
    (hk : s.engine.mode ≠ .lockout → Working q k.1) : Working q (unlessLocked s k).1 := by
  unfold unlessLocked
  split
  · exact h
  next hne => exact hk hne

/-- So does a check that refuses. -/
theorem guard_working {c : Prop} [Decidable c] (h : Working q s) {st : Status} {k : Served}
    (hk : ¬ c → Working q k.1) : Working q (if c then refuse st s else k).1 := by
  split
  · exact h
  next hc => exact hk hc

/-! ## The link and the lanes (R9 to R13, R99, R173) -/

theorem serveStatus_working (h : Working q s) (p : List Byte) : Working q (serveStatus p s).1 := by
  unfold serveStatus
  split
  · exact h.withLink { h.link with }
  · exact h

/-- A written mask has READY's bit set and bits 9 to 15 clear (R173). -/
theorem maskOf_law (m : BitVec 16) : maskOf m &&& 0xFE01 = 0x0001 := by
  have hlow : (0x01FE : BitVec 16) &&& 0xFE01 = 0#16 := rfl
  rw [maskOf, BitVec.and_or_distrib_right, BitVec.and_assoc, hlow, BitVec.and_zero]
  rfl

theorem serveNoticeMask_working (h : Working q s) (p : List Byte) :
    Working q (serveNoticeMask p s).1 := by
  unfold serveNoticeMask noticeMask
  split
  · exact unlessLocked_working h fun _ => guard_working h fun _ =>
      h.withLink { h.link with mask := maskOf_law _ }
  · exact h

theorem serveSetBank_working (h : Working q s) (p : List Byte) : Working q (serveSetBank p s).1 := by
  unfold serveSetBank setBank
  split
  · refine unlessLocked_working h fun _ => guard_working h fun _ => ?_
    split
    · exact h.withOutput _
    · exact h
  · exact h

theorem serveSetIdlePolicy_working (h : Working q s) (p : List Byte) :
    Working q (serveSetIdlePolicy p s).1 := by
  unfold serveSetIdlePolicy setIdlePolicy
  split
  · refine unlessLocked_working h fun _ => ?_
    split
    · exact h.withOutput _
    · exact h
  · exact h

theorem serveStageStatic_working (h : Working q s) (p : List Byte) :
    Working q (serveStageStatic p s).1 := by
  unfold serveStageStatic stageStatic
  split
  · exact unlessLocked_working h fun _ => guard_working h fun _ => h.withOutput _
  · exact h

theorem serveApplyStatic_working (h : Working q s) (p : List Byte) :
    Working q (serveApplyStatic p s).1 := by
  unfold serveApplyStatic applyStatic
  split
  · exact unlessLocked_working h fun _ => guard_working h fun _ => h.withOutput _
  · exact h

/-! ## The pattern store (R23, R24, R31, R33) -/

theorem content_of_not_defined {t : Store} {p : PatternId} (h : ¬ (t.content p).isDefined = true) :
    t.content p = .undefined := by
  revert h
  cases t.content p <;> simp [Content.isDefined]

theorem serveDefinePattern_working (h : Working q s) (p : List Byte) :
    Working q (serveDefinePattern p s).1 := by
  unfold serveDefinePattern definePattern
  split
  · refine unlessLocked_working h fun _ => ?_
    split
    · exact h
    next r _ =>
      refine guard_working h fun hdef => guard_working h fun hlen => ?_
      split
      · exact h
      next hfit =>
      simp only [Bool.or_eq_true, decide_eq_true_eq, not_or] at hlen
      have hsound := define_sound (p := r) h.store (Nat.pos_of_ne_zero hlen.1) hfit
      exact h.withStore (storeFits_of_content (store_sound_of_content hsound fun _ => rfl)
        (fun _ => putContent_content _ _ _ _) (Or.inr (Or.inl (content_of_not_defined hdef)))) rfl
  · exact h

/-- What DEFINE_GENERATOR lets pass is a generated entry in range (R24). -/
theorem generated_inRange {mask seed : LaneSet} {step length : Nat} {k : GenKind} {x : ExpectMode}
    (h : ¬ (mask = 0 || 23 < step || length = 0 || Config.maxGenerated < length) = true) :
    entryInRange (.generated length ⟨k, mask, seed, step, x⟩) = true := by
  simp only [Bool.or_eq_true, decide_eq_true_eq, not_or, Nat.not_lt] at h
  obtain ⟨⟨⟨hmask, hstep⟩, hlen⟩, hmax⟩ := h
  simp only [entryInRange, Bool.and_eq_true, decide_eq_true_eq, bne_iff_ne]
  exact ⟨⟨⟨Nat.pos_of_ne_zero hlen, hmax⟩, hmask⟩, hstep⟩

theorem serveDefineGenerator_working (h : Working q s) (p : List Byte) :
    Working q (serveDefineGenerator p s).1 := by
  unfold serveDefineGenerator defineGenerator
  split
  · refine unlessLocked_working h fun _ => ?_
    split
    · exact h
    next r _ =>
      refine guard_working h fun hdef => ?_
      split
      · refine guard_working h fun hrange => ?_
        exact h.withStore (storeFits_of_content
          (putContent_sound (p := r) h.store (generated_inRange hrange) fun _ _ heq => by cases heq)
          (fun _ => putContent_content _ _ _ _)
          (Or.inr (Or.inl (content_of_not_defined hdef)))) rfl
      · exact h
  · exact h

/-- Records written leave every entry's content as it was (R31). -/
theorem writeVectors_content (t : Store) (p : PatternId) (start : Nat) (vs : List VectorRec)
    (r : PatternId) : (t.writeVectors p start vs).content r = t.content r := by
  have h := putContent_content t p r (t.content p)
  rw [show (t.writeVectors p start vs).content r = (t.putContent p (t.content p)).content r from rfl,
    h]
  split
  next hr => rw [hr]
  · rfl

theorem writeVectors_working (h : Working q s) (id : Byte) (start count : Nat)
    (records : List (List Byte)) : Working q (writeVectors id start count records s).1 := by
  unfold writeVectors
  refine unlessLocked_working h fun _ => ?_
  split
  · exact h
  refine guard_working h fun _ => ?_
  split
  · exact h
  · exact h
  refine guard_working h fun _ => ?_
  split
  · exact h
  · refine guard_working h fun _ => h.withStore ⟨?_, fun r _ hd => ?_⟩ rfl
    · exact store_sound_of_content h.store (writeVectors_content _ _ _ _)
    · rw [writeVectors_content]
      exact ⟨hd, rfl⟩

theorem serveWriteVectors_working (h : Working q s) (p : List Byte) :
    Working q (serveWriteVectors p s).1 := by
  unfold serveWriteVectors
  split
  · split
    · exact writeVectors_working h _ _ _ _
    · exact h
  · exact h

theorem serveDeletePattern_working (h : Working q s) (p : List Byte) :
    Working q (serveDeletePattern p s).1 := by
  unfold serveDeletePattern deletePattern
  split
  · refine unlessLocked_working h fun _ => ?_
    split
    · exact h
    next r _ =>
      refine guard_working h fun _ => guard_working h fun hnamed => ?_
      have hsound := putContent_sound (p := r) (c := .undefined) h.store rfl
        fun _ _ heq => by cases heq
      exact h.withStore (storeFits_of_content hsound (fun _ => putContent_content _ _ _ _)
        (Or.inl (by simpa using hnamed))) rfl
  · exact h

/-! ## The timing sets and the rotations (R41, R61 to R70) -/

theorem serveSetTiming_working (h : Working q s) (p : List Byte) :
    Working q (serveSetTiming p s).1 := by
  unfold serveSetTiming setTiming
  split
  · refine unlessLocked_working h fun _ => ?_
    split
    · refine guard_working h fun _ => ?_
      split
      · exact h
      · split
        · exact h
        · exact h.withTiming rfl rfl
    · exact h
  · exact h

/-- A rotation unit whose active rotation is the same, or is playable where no rotation run is live,
and in which a swap waits only in one. -/
theorem Working.setRotation (h : Working q s) {u : RotationUnit} (hu : u.Sound s.store)
    (hswap : s.engine.rotationLive = false → u.swapWaiting = false)
    (hactive : u.active = s.rotation.active ∨
      s.engine.rotationLive = false ∧ Playable s.store u.active) :
    Working q (s.withRotation u) :=
  { store := h.store
    rotation := hu
    trigger := h.trigger
    checker := h.checker
    engine := h.engine
    link := h.link
    unpacked := h.unpacked
    below := h.below
    phase := by
      rcases h.phase with hp | ⟨hf, hp⟩ | hp
      · have hr : s.engine.rotationLive = false := by simp [Engine.rotationLive, hp.notLive]
        refine Or.inl
          { live := hp.live
            stack := hp.stack
            splice := hp.splice
            record := hp.record
            wait := hp.wait
            swap := hswap hr
            notLive := hp.notLive
            pacer := hp.pacer
            position := hp.position
            armed := fun harm => ?_ }
        rcases hactive with heq | ⟨_, hplay⟩
        · rw [State.withRotation_rotation, heq]
          exact hp.armed harm
        · exact hplay
      · have heq : u.active = s.rotation.active :=
          hactive.resolve_right fun hno => by simp [hf.rotationLive] at hno
        exact Or.inr (Or.inl ⟨hf.transfer ⟨⟨rfl, heq⟩, rfl, rfl, rfl, rfl, rfl⟩ hf.isLive,
          hp.pacer, hp.wait, hp.record⟩)
      · exact Or.inr (Or.inr
          { live := hp.live
            stack := hp.stack
            splice := hp.splice
            record := hp.record
            wait := hp.wait
            swap := hswap hp.rotationLive
            kind := hp.kind
            mode := hp.mode
            pacer := hp.pacer
            position := hp.position }) }

theorem serveEditSlot_working (h : Working q s) (p : List Byte) :
    Working q (serveEditSlot p s).1 := by
  unfold serveEditSlot editSlot
  split
  next dwell _ _ =>
    refine unlessLocked_working h fun _ => guard_working h fun hswap => ?_
    split
    next i _ _ _ _ _ _ _ =>
      refine guard_working h fun _ => ?_
      refine h.withRotation ⟨h.rotation.active, fun hw => absurd hw hswap, h.rotation.count,
        fun j => ⟨(h.rotation.dwells j).1, ?_⟩⟩ rfl rfl
      by_cases hij : i = j
      · subst hij
        simpa using Nat.le_of_lt_succ dwell.isLt
      · have hval : i.val ≠ j.val := fun hv => hij (Fin.ext hv)
        simpa [Vector.getElem_set, hval] using (h.rotation.dwells j).2
    · exact h
  · exact h

theorem serveSetSlotCount_working (h : Working q s) (p : List Byte) :
    Working q (serveSetSlotCount p s).1 := by
  unfold serveSetSlotCount setSlotCount
  split
  · exact unlessLocked_working h fun _ => guard_working h fun hswap => guard_working h fun hcount =>
      h.withRotation ⟨h.rotation.active, fun hw => absurd hw hswap, Nat.not_lt.1 hcount,
        h.rotation.dwells⟩ rfl rfl
  · exact h

theorem lowest?_eq_none {r : Rotation} {bad : Slot → Bool} (h : r.lowest? bad = none)
    {i : SlotIndex} (hi : i.val < r.count) : bad r.slots[i] = false := by
  have := List.find?_eq_none.1 h i (List.mem_finRange i)
  simpa [hi] using this

theorem serveCommitRotation_working (h : Working q s) (p : List Byte) :
    Working q (serveCommitRotation p s).1 := by
  unfold serveCommitRotation commitRotation
  split
  · refine unlessLocked_working h fun _ => guard_working h fun hswap => guard_working h fun hcount => ?_
    split
    · exact h
    next hdwell =>
      split
      · exact h
      next hdefined =>
        have hplay : Playable s.store s.rotation.pendingRot := by
          refine ⟨Nat.pos_of_ne_zero hcount, h.rotation.count, fun i hi => ⟨?_, ?_⟩⟩
          · simpa using lowest?_eq_none hdefined hi
          · exact Nat.pos_of_ne_zero (by simpa using lowest?_eq_none hdwell hi)
        split
        next hlive =>
          exact h.setRotation ⟨h.rotation.active, fun _ => hplay, h.rotation.count, h.rotation.dwells⟩
            (fun hno => by rw [hlive] at hno; cases hno) (Or.inl rfl)
        next hlive =>
          have hlive : s.engine.rotationLive = false := by simpa using hlive
          exact (h.setRotation (u := ⟨s.rotation.pendingRot, s.rotation.pendingRot,
            s.rotation.version + 1, false⟩) ⟨Or.inr hplay, fun hf => (by cases hf), h.rotation.count,
            fun i => ⟨(h.rotation.dwells i).2, (h.rotation.dwells i).2⟩⟩ (fun _ => rfl)
            (Or.inr ⟨hlive, hplay⟩)).notice _ _
  · exact h

theorem serveWithdrawCommit_working (h : Working q s) (p : List Byte) :
    Working q (serveWithdrawCommit p s).1 := by
  unfold serveWithdrawCommit withdrawCommit
  split
  · refine unlessLocked_working h fun _ => ?_
    split
    · exact h.setRotation ⟨h.rotation.active, fun hf => (by cases hf), h.rotation.count,
        h.rotation.dwells⟩ (fun _ => rfl) (Or.inl rfl)
    · exact h
  · exact h

/-! ## The run engine (R76 to R90, R100, R103) -/

theorem serveResetEngine_working (h : Working q s) (p : List Byte) :
    Working q (serveResetEngine p s).1 := by
  unfold serveResetEngine
  split
  · exact engineReset_working h
  · exact h

theorem num2_le (a b : Byte) : num2 a b ≤ 65535 := by
  have ha := a.isLt
  have hb := b.isLt
  unfold num2
  omega

theorem serveArm_working (h : Working q s) (p : List Byte) : Working q (serveArm p s).1 := by
  unfold serveArm arm
  split
  · refine unlessLocked_working h fun hne => guard_working h fun hlive => ?_
    split
    · exact h
    next stopOnFail w1 w0 _ _ _ _ =>
      refine guard_working h fun hcount => ?_
      have hsound : ∀ m c, ({ s.engine with mode := .armed, options :=
          ⟨m, stopOnFail.toNat, num2 w1 w0, c⟩ } : Engine).Sound := fun _ _ =>
        ⟨⟨Nat.le_of_lt_succ stopOnFail.isLt, num2_le w1 w0⟩, h.engine.snapshots⟩
      exact setIdle_working h (by simpa using hlive) hne (hsound _ _) rfl
        (fun _ => h.rotation.active.resolve_left hcount) (by constructor <;> rfl)
  · exact h

theorem serveDisarm_working (h : Working q s) (p : List Byte) : Working q (serveDisarm p s).1 := by
  unfold serveDisarm disarm
  split
  · refine unlessLocked_working h fun hne => ?_
    split
    next hm =>
      exact setIdle_working h (by rw [hm]; rfl) hne (h.engine.congr rfl rfl) rfl
        (fun harm => by cases harm) (by constructor <;> rfl)
    · exact h
  · exact h

theorem serveStart_working (h : Working q s) (p : List Byte) : Working q (serveStart p s).1 := by
  unfold serveStart start
  split
  · refine unlessLocked_working h fun _ => ?_
    split
    next hm => exact startRun_working h hm
    · exact h
  · exact h

theorem serveStop_working (h : Working q s) (p : List Byte) : Working q (serveStop p s).1 := by
  unfold serveStop stop
  split
  · exact unlessLocked_working h fun hne => guard_working h fun _ => stopped_working h hne _
  · exact h

theorem serveHold_working (h : Working q s) (p : List Byte) : Working q (serveHold p s).1 := by
  unfold serveHold hold
  split
  · refine unlessLocked_working h fun _ => ?_
    split
    next hm =>
      exact setMode_working h (by rw [hm]; rfl)
        (by rw [hm]; constructor <;> simp [EngineState.isLive])
    · split
      next hm =>
        exact setMode_working h (by rw [hm]; rfl)
          (by rw [hm]; constructor <;> simp [EngineState.isLive])
      · exact h
  · exact h

theorem mode_of_origin {m : EngineState} {o : HeldOrigin} (h : m.origin? = some o) :
    m = .held o := by
  cases m <;> simp [EngineState.origin?] at h
  rw [h]

theorem serveContinueRun_working (h : Working q s) (p : List Byte) :
    Working q (serveContinueRun p s).1 := by
  unfold serveContinueRun continueRun
  split
  · refine unlessLocked_working h fun _ => ?_
    split
    next ho => exact continueFrom_working h (mode_of_origin ho)
    · exact h
  · exact h

theorem serveRelease_working (h : Working q s) (p : List Byte) : Working q (serveRelease p s).1 := by
  unfold serveRelease release
  split
  · refine unlessLocked_working h fun _ => ?_
    split
    next hr => exact released_working h hr
    · exact h
  · exact h

theorem serveAdvance_working (h : Working q s) (p : List Byte) : Working q (serveAdvance p s).1 := by
  unfold serveAdvance advance
  split
  · refine unlessLocked_working h fun _ => ?_
    split
    · exact latchAdvance_working h
    · exact h
  · exact h

theorem serveSplice_working (h : Working q s) (p : List Byte) : Working q (serveSplice p s).1 := by
  unfold serveSplice splice
  split
  next skip =>
    split
    · exact h
    next hgate =>
      split
      · dsimp only
        split
        · exact h
        next hroom =>
          exact acceptSplice_working h (spliceFits_of_checks hgate hroom)
            (Nat.le_of_lt_succ skip.isLt)
      · exact h
  · exact h

/-! ## Snapshots (R117 to R125) -/

theorem serveSuspend_working (h : Working q s) (p : List Byte) : Working q (serveSuspend p s).1 := by
  unfold serveSuspend suspend
  split
  · refine unlessLocked_working h fun _ => guard_working h fun hlive => ?_
    split
    · exact h
    · refine guard_working h fun _ => ?_
      obtain ⟨hready, _⟩ := h.rotating (by simpa using hlive)
      have hsnap := savedRun_sound hready.framed h.checker h.engine
      exact runEnd_working (putSnapshot_working h _ hsnap).toSteady fun _ => hready.below
  · exact h

theorem serveResume_working (h : Working q s) (p : List Byte) : Working q (serveResume p s).1 := by
  unfold serveResume resume
  split
  · refine unlessLocked_working h fun _ => guard_working h fun hm => ?_
    split
    · exact h
    refine guard_working h fun hne => ?_
    split
    · exact h
    next hr => exact resumeRun_working h _ (by simpa using hm) hne hr
  · exact h

/-- A record that LOAD_SNAPSHOT takes is a sound snapshot (R124). -/
theorem ofRecord_sound {header : List Byte} {frames : List (List Byte)} {x : Snapshot}
    (h : Snapshot.ofRecord? header frames = some x) : x.Sound := by
  unfold Snapshot.ofRecord? at h
  split at h
  · cases h
  split at h
  next hform =>
    unfold Snapshot.ofHeader? at h
    split at h
    next stopOnFail w1 w0 _ _ _ _ _ _ _ _ _ f1 f0 =>
      obtain ⟨m, _, rfl⟩ := Option.map_eq_some_iff.1 h
      have hfailing := num2_le f1 f0
      have hoptions := And.intro (Nat.le_of_lt_succ stopOnFail.isLt) (num2_le w1 w0)
      exact ⟨⟨fun hempty => (by cases hempty), fun _ => hform⟩, hfailing, hoptions⟩
    · cases h
  · cases h

theorem serveLoadSnapshot_working (h : Working q s) (p : List Byte) :
    Working q (serveLoadSnapshot p s).1 := by
  unfold serveLoadSnapshot loadSnapshot
  dsimp only
  split
  · refine unlessLocked_working h fun _ => ?_
    split
    · exact h
    split
    · exact h
    next hx => exact guard_working h fun _ => putSnapshot_working h _ (ofRecord_sound hx)
  · exact h

theorem serveDiscardSnapshot_working (h : Working q s) (p : List Byte) :
    Working q (serveDiscardSnapshot p s).1 := by
  unfold serveDiscardSnapshot discardSnapshot
  split
  · refine unlessLocked_working h fun _ => ?_
    split
    · exact h
    · exact putSnapshot_working h _ none_sound
  · exact h

/-! ## The checker (R139 to R142) -/

theorem serveSetCheck_working (h : Working q s) (p : List Byte) :
    Working q (serveSetCheck p s).1 := by
  unfold serveSetCheck setCheck
  split
  · refine unlessLocked_working h fun _ => guard_working h fun _ => ?_
    split
    · exact h
    · refine guard_working h fun hrange => ?_
      simp only [Bool.or_eq_true, decide_eq_true_eq, not_or, Nat.not_lt, Nat.not_le] at hrange
      obtain ⟨⟨⟨⟨hthr1, hthr2⟩, hlim1⟩, hlim2⟩, hbelow⟩ := hrange
      refine h.withChecker ?_ fun _ => ?_
      · constructor <;> dsimp only
        · exact h.checker.log
        · exact h.checker.counts
        · exact h.checker.failing
        · exact ⟨hthr1, hthr2⟩
        · exact ⟨hlim1, hlim2⟩
      · rw [Checker.Below]
        exact hbelow
  · exact h

theorem clearLanes_sound {c : Checker} (h : c.Sound) (l : LaneSet) : (c.clearLanes l).Sound := by
  have hfaults : ∀ n : Lane, (c.clearLanes l).faultCounts[n] ≤ 15 := by
    intro n
    simp only [Checker.clearLanes, Fin.getElem_fin, Vector.getElem_ofFn]
    split
    · exact Nat.zero_le _
    · exact (h.counts n).2
  refine ⟨?_, fun n => ⟨?_, hfaults n⟩, ?_, ?_, ?_⟩ <;> dsimp only [Checker.clearLanes]
  · exact h.log
  · exact (h.counts n).1
  · exact h.failing
  · exact h.threshold
  · exact h.limit

/-- Lanes that leave quarantine leave the number below the limit (R140). -/
theorem clearLanes_below {c : Checker} (h : c.Below) (l : LaneSet) : (c.clearLanes l).Below := by
  have hlimit : (c.clearLanes l).quarantineLimit = c.quarantineLimit := by
    dsimp only [Checker.clearLanes]
  have hle : (c.clearLanes l).quarantinedCount ≤ c.quarantinedCount := by
    refine laneCount_le fun n hn => ?_
    simp only [Checker.clearLanes, hasLane_and, Bool.and_eq_true] at hn
    exact hn.1
  rw [Checker.Below, hlimit]
  exact Nat.lt_of_le_of_lt hle h

theorem serveClearLane_working (h : Working q s) (p : List Byte) :
    Working q (serveClearLane p s).1 := by
  unfold serveClearLane clearLane
  split
  · exact unlessLocked_working h fun hne => guard_working h fun _ =>
      h.withChecker (clearLanes_sound h.checker _) fun _ => clearLanes_below (h.below hne) _
  · exact h

theorem serveReadFails_working (h : Working q s) (p : List Byte) :
    Working q (serveReadFails p s).1 := by
  unfold serveReadFails readFails
  split
  · refine guard_working h fun _ => h.withChecker { h.checker with log := ?_ } h.below
    have := h.checker.log
    simp only [Checker.dropFails, List.length_drop]
    omega
  · exact h

theorem serveReadCounts_working (h : Working q s) (p : List Byte) :
    Working q (serveReadCounts p s).1 := by
  unfold serveReadCounts readCounts
  split
  · refine h.withChecker ⟨h.checker.log, fun n => ⟨?_, (h.checker.counts n).2⟩, h.checker.failing,
      h.checker.threshold, h.checker.limit⟩ fun hm => below_congr (h.below hm) rfl rfl
    simp
  · exact h

/-! ## The survey and the reference map (R148, R157, R158) -/

theorem serveSurvey_working (h : Working q s) (p : List Byte) : Working q (serveSurvey p s).1 := by
  unfold serveSurvey survey
  split
  · refine unlessLocked_working h fun _ => guard_working h fun hm => ?_
    split
    · exact h
    split
    next hl =>
      refine startSurvey_working h (by simpa using hm) _ ((mem_lanesOf _ _).1 ?_)
      rw [hl]
      exact List.mem_cons_self
    · exact h
  · exact h

theorem Working.putReference (h : Working q s) (m : Lanes (Option LaneSet)) :
    Working q (s.withSurvey (s.survey.putReference m)) :=
  h.withSurvey rfl rfl

theorem serveLoadReference_working (h : Working q s) (p : List Byte) :
    Working q (serveLoadReference p s).1 := by
  unfold serveLoadReference loadReference
  split
  · refine unlessLocked_working h fun _ => guard_working h fun _ => ?_
    split
    · exact h
    · exact h.putReference _
  · exact h

theorem serveAdoptReference_working (h : Working q s) (p : List Byte) :
    Working q (serveAdoptReference p s).1 := by
  unfold serveAdoptReference adoptReference
  split
  · exact unlessLocked_working h fun _ => guard_working h fun _ => guard_working h fun _ =>
      h.putReference _
  · exact h

theorem serveClearReference_working (h : Working q s) (p : List Byte) :
    Working q (serveClearReference p s).1 := by
  unfold serveClearReference clearReference
  split
  · exact unlessLocked_working h fun _ => guard_working h fun _ => h.withSurvey rfl rfl
  · exact h

/-! ## Triggers and captures (R162, R165, R166) -/

/-- An input's configuration replaced by one whose preset is in range and names a defined pattern. -/
theorem putCfg_sound {t : Store} {g : Trigger} (h : g.Sound t) (i : TrigInput) {c : TrigCfg}
    (hc : ∀ x ∈ presetOf c.action, (t.content x.pattern).isDefined = true ∧ x.skip ≤ 255) :
    (g.putCfg i c).Sound t := by
  have hnames : ∀ p, c.names p = true → (t.content p).isDefined = true := by
    intro p hp
    obtain ⟨x, hx, rfl⟩ := (trigCfg_names_iff c p).1 hp
    exact (hc x (by rw [hx]; rfl)).1
  have hboth := fun p (hp : g.trgA.names p = true ∨ g.trgB.names p = true) =>
    h.names p (by simpa [Trigger.names] using hp)
  cases i with
  | trgA =>
    refine ⟨fun p hp => ?_, fun x hx => (hc x hx).2, h.skipB⟩
    simp only [Trigger.names, Trigger.putCfg, Bool.or_eq_true] at hp
    exact hp.elim (hnames p) fun hb => hboth p (Or.inr hb)
  | trgB =>
    refine ⟨fun p hp => ?_, h.skipA, fun x hx => (hc x hx).2⟩
    simp only [Trigger.names, Trigger.putCfg, Bool.or_eq_true] at hp
    exact hp.elim (fun ha => hboth p (Or.inl ha)) (hnames p)

/-- The actions that SET_TRIGGER takes without a preset have none (R161). -/
theorem presetOf_plain {b : Byte} {a : TrigAction} (h : TrigAction.plain? b = some a) :
    presetOf a = none := by
  have ha := List.mem_of_getElem? h
  simp only [List.mem_cons, List.not_mem_nil, or_false] at ha
  rcases ha with rfl | rfl | rfl | rfl | rfl | rfl <;> rfl

theorem serveSetTrigger_working (h : Working q s) (p : List Byte) :
    Working q (serveSetTrigger p s).1 := by
  unfold serveSetTrigger setTrigger
  split
  next skip =>
    refine unlessLocked_working h fun _ => guard_working h fun _ => ?_
    split
    · split
      · unfold setSpliceTrigger
        split
        · refine guard_working h fun hdef => h.withTrigger (putCfg_sound h.trigger _ fun x hx => ?_)
          obtain rfl := Option.some.inj hx
          exact ⟨by simpa using hdef, Nat.le_of_lt_succ skip.isLt⟩
        · exact h
      · split
        next hact =>
          refine h.withTrigger (putCfg_sound h.trigger _ fun x hx => ?_)
          rw [show presetOf _ = none from presetOf_plain hact] at hx
          cases hx
        · exact h
    · exact h
  · exact h

theorem captured_working (h : Working q s) (source : CaptureSource) :
    Working q (captured source s) :=
  h.withTrigger ⟨h.trigger.names, h.trigger.skipA, h.trigger.skipB⟩

theorem serveCapture_working (h : Working q s) (p : List Byte) : Working q (serveCapture p s).1 := by
  unfold serveCapture capture
  split
  · refine unlessLocked_working h fun _ => ?_
    split
    · exact captured_working h _
    · exact h
  · exact h

/-! ## Every request -/

/-- Every request's body keeps the laws: those that write by their own lemmas, and those that read
because they leave the state as it is. -/
theorem body_working {i : Instr} {body : List Byte → State → Served} (hb : bodyOf i = some body)
    (h : Working q s) (p : List Byte) : Working q (body p s).1 := by
  cases i <;> cases hb
  case status => exact serveStatus_working h p
  case noticeMask => exact serveNoticeMask_working h p
  case resetEngine => exact serveResetEngine_working h p
  case setBank => exact serveSetBank_working h p
  case setIdlePolicy => exact serveSetIdlePolicy_working h p
  case stageStatic => exact serveStageStatic_working h p
  case applyStatic => exact serveApplyStatic_working h p
  case definePattern => exact serveDefinePattern_working h p
  case defineGenerator => exact serveDefineGenerator_working h p
  case writeVectors => exact serveWriteVectors_working h p
  case deletePattern => exact serveDeletePattern_working h p
  case setTiming => exact serveSetTiming_working h p
  case editSlot => exact serveEditSlot_working h p
  case setSlotCount => exact serveSetSlotCount_working h p
  case commitRotation => exact serveCommitRotation_working h p
  case withdrawCommit => exact serveWithdrawCommit_working h p
  case arm => exact serveArm_working h p
  case disarm => exact serveDisarm_working h p
  case start => exact serveStart_working h p
  case stop => exact serveStop_working h p
  case hold => exact serveHold_working h p
  case continueRun => exact serveContinueRun_working h p
  case release => exact serveRelease_working h p
  case advance => exact serveAdvance_working h p
  case splice => exact serveSplice_working h p
  case suspend => exact serveSuspend_working h p
  case resume => exact serveResume_working h p
  case loadSnapshot => exact serveLoadSnapshot_working h p
  case discardSnapshot => exact serveDiscardSnapshot_working h p
  case setCheck => exact serveSetCheck_working h p
  case clearLane => exact serveClearLane_working h p
  case readFails => exact serveReadFails_working h p
  case readCounts => exact serveReadCounts_working h p
  case survey => exact serveSurvey_working h p
  case loadReference => exact serveLoadReference_working h p
  case adoptReference => exact serveAdoptReference_working h p
  case clearReference => exact serveClearReference_working h p
  case setTrigger => exact serveSetTrigger_working h p
  case capture => exact serveCapture_working h p
  case badKind => exact h
  all_goals
    simp only [servePosition, serveReadLanes, serveReadVectors, serveListPatterns, serveReadTiming,
      serveReadRotation, serveReadSnapshot, serveReadNetMap, serveReadCapture, readLanes,
      readVectors, listPatterns, readTiming, readRotation, readSnapshot, unlessLocked]
    repeat' split
    all_goals exact h

end

end Sys2Proof.Machine
end

section
/-! SUPPORT. Every row and every tick keeps the laws of the device. -/

namespace Sys2Proof.Machine

open Safety

/-! ## Requests (R170, R171) -/

/-- A request's frame submitted (R170). -/
theorem Core.submit {s : State} (h : Core s) (ho : s.operating = true) (f : LinkFrame) :
    Core (s.submit f) := by
  unfold State.submit
  split
  · exact h
  · exact h.completeFrame ho f

/-- A request row keeps the laws if its work does on a state that it serves. -/
theorem Core.serveFrame {s : State} (h : Core s) (f : LinkFrame) {work : State → State}
    (hw : ∀ t, Core t → Serving t f → Core (work t)) : Core (serveFrame f work s) := by
  by_cases ho : s.operating = true
  · rcases serveFrame_cases s f work with e | e | ⟨e, hserving⟩ <;> rw [e]
    · exact h
    · exact h.completeFrame ho f
    · exact hw _ (h.submit ho f) hserving
  · rw [serveFrame_startUp (by simpa using ho)]
    exact h

/-- So does every request answered at once, as its body does. -/
theorem Core.serveRequest {s : State} (h : Core s) {i : Instr} {body : List Byte → State → Served}
    (hb : bodyOf i = some body) (f : LinkFrame) : Core (serveRequest f body s) :=
  h.serveFrame f fun _ ht hserving => by
    obtain ⟨_, hworking⟩ := ht.working_of_serving hserving
    exact (body_working hb hworking f.payload).answered

theorem request_core {i : Instr} {body : List Byte → State → Served} {s t : State} (h : Core s)
    (hb : bodyOf i = some body) (he : exec i s = .next t) : Core t := by
  by_cases hk : i.kindWf = true
  · obtain ⟨f, hf⟩ := frame?_of_bodyOf hb
    rw [exec_eq_serveRequest hk hf hb] at he
    exact Host.Outcome.next.inj he ▸ h.serveRequest hb f
  · rw [exec_of_not_kindWf hk] at he
    exact Host.Outcome.next.inj he ▸ h

/-! ## Packs (R36, R37) -/

/-- A store with the entries' content of the state's own. -/
theorem storeFits_same {s : State} (h : s.store.Sound) {t : Store}
    (hc : ∀ p, t.content p = s.store.content p) : StoreFits s t :=
  ⟨store_sound_of_content h hc, fun p _ hd => by rw [hc]; exact ⟨hd, rfl⟩⟩

theorem storeFits_afterPack {s : State} (h : s.store.Sound) : StoreFits s s.store.afterPack :=
  ⟨afterPack_sound h, fun p _ hd => by
    obtain ⟨hdef, hlen, _⟩ := afterPack_same h p
    exact ⟨hdef.trans hd, hlen⟩⟩

/-- Another store, with a pack in progress or without. -/
theorem Core.putStore {s : State} (h : Core s) {t : Store} (ht : StoreFits s t)
    (hp : PackLaw (s.withStore t)) : Core (s.withStore t) where
  store := ht.sound
  rotation := ht.rotation h.rotation
  trigger := ht.trigger h.trigger
  checker := h.checker
  engine := h.engine
  link := h.link
  below := h.below
  phase := ht.phase h.phase
  pack := hp
  startUp := h.startUp

theorem completePack_core {s : State} (h : Core s) (ho : s.operating = true) {f : LinkFrame}
    {rest : List LinkFrame} (hq : s.link.requests = f :: rest) :
    Core (completePack f s.store.packPlan s) := by
  have hworking := h.withStore (storeFits_afterPack h.store) ho rfl
  rw [hq] at hworking
  exact Working.answered (w := accept (s.withStore s.store.afterPack) _) hworking

theorem packStore_core {s : State} (h : Core s) {f : LinkFrame} (hs : Serving s f)
    (hk : f.kind = Kind.packStore) : Core (packStore f s) := by
  obtain ⟨rest, hworking⟩ := h.working_of_serving hs
  have hrefuse : ∀ st, Core (answered f (refuse st s)) := fun st =>
    Working.answered (w := refuse st s) hworking
  unfold packStore
  split
  · exact hrefuse _
  split
  · exact hrefuse _
  split
  · exact hrefuse _
  next hm =>
    split
    · exact completePack_core h hs.operating hworking.link.queue
    · refine h.putStore (storeFits_same h.store fun _ => rfl) fun k hkeep => ?_
      obtain rfl := Option.some.inj hkeep
      refine ⟨by simpa using hm, rfl, ?_⟩
      show s.link.requests.head?.map LinkFrame.kind = _
      rw [hs.oldest, Option.map_some, hk]

theorem packComplete_core {s : State} (h : Core s) {k : Pack} (hk : s.store.pack = some k)
    {f : LinkFrame} {rest : List LinkFrame} (hq : s.link.requests = f :: rest) :
    Core (completePack f k.moves s) := by
  obtain ⟨_, hplan, _⟩ := h.pack k hk
  rw [hplan]
  refine completePack_core h ?_ hq
  by_contra ho
  rw [(h.startUp (by simpa using ho)).1] at hq
  cases hq

/-! ## Reset, start-up and the link's events (R168 to R172, R176) -/

theorem fullReset_core (straps : BitVec 2) (s : State) : Core (fullReset straps s) :=
  have h := core_of_lawful lawfulAtReset
  { store := h.store
    rotation := h.rotation
    trigger := h.trigger
    checker := h.checker
    engine := h.engine
    link := { h.link with }
    below := h.below
    phase := runPhase_congr h.phase (by constructor <;> rfl)
    pack := nofun
    startUp := fun _ => ⟨rfl, rfl, rfl⟩ }

/-- A change of an input's level keeps its preset. -/
theorem change_sound {t : Store} {g : Trigger} (h : g.Sound t) (levelA levelB : Bool) :
    ({ g with
      trgA := { g.trgA with lastLevel := levelA }
      trgB := { g.trgB with lastLevel := levelB } } : Trigger).Sound t :=
  ⟨h.names, h.skipA, h.skipB⟩

/-- The end of start-up: nothing waits, so no pack is in progress (R36, R176). -/
theorem finishStartUp_core {s : State} (h : Core s) (ho : s.operating = false) (levelA levelB : Bool) :
    Core (finishStartUp levelA levelB s) := by
  obtain ⟨hreq, _, _⟩ := h.startUp ho
  have htrigger := h.withTrigger (change_sound h.trigger levelA levelB)
  have hlink : ({ s.link with power := .operating } : Link).Sound := { h.link with }
  refine htrigger.withLink (notice_sound hlink .ready readyPayload) (fun _ => ?_) fun hne => ?_
  · rw [Link.notice_requests]
    rfl
  · rw [Link.notice_power] at hne
    exact absurd rfl hne

/-- A link that keeps its power and its oldest request, while the part operates. -/
theorem Core.withOpenLink {s : State} (h : Core s) (ho : s.operating = true) {l : Link}
    (hl : l.Sound) (hpower : l.power = s.link.power)
    (hreq : l.requests = s.link.requests ∨ ∃ f, l.requests = s.link.requests ++ [f]) :
    Core (s.withLink l) := by
  refine h.withLink hl (fun hp => ?_) fun hne => ?_
  · obtain ⟨k, hk⟩ := Option.ne_none_iff_exists'.1 hp
    obtain ⟨g, hg, _⟩ := Option.map_eq_some_iff.1 (h.pack k hk).2.2
    rcases hreq with e | ⟨f, e⟩
    · rw [e]
    · rw [e, List.head?_append, hg]
      rfl
  · rw [hpower] at hne
    exact absurd ((operating_iff s).1 ho) hne

theorem Core.notice {s : State} (h : Core s) (ho : s.operating = true) (k : NoticeKind)
    (p : List Byte) : Core (s.notice k p) :=
  h.withOpenLink ho (notice_sound h.link k p) (Link.notice_power _ _ _)
    (Or.inl (Link.notice_requests _ _ _))

theorem frameSent_core {s : State} (h : Core s) :
    Core (s.withLink { s.link with outbound := s.link.outbound.tail }) := by
  refine h.withLink (sent_sound h.link) (fun _ => rfl) fun hne => ?_
  have ho : s.operating = false := by
    by_contra hop
    exact hne ((operating_iff s).1 (by simpa using hop))
  obtain ⟨hreq, hout, _⟩ := h.startUp ho
  exact ⟨ho, hreq, by simp [hout]⟩

/-! ## Triggers (R161, R163, R165, R113) -/

/-- An input's preset names a defined pattern and has a skip in range (R57, R161). -/
theorem Trigger.Sound.preset {t : Store} {g : Trigger} (h : g.Sound t) (i : TrigInput) :
    ∀ x ∈ presetOf (g.cfg i).action, (t.content x.pattern).isDefined = true ∧ x.skip ≤ 255 := by
  have haction : ∀ {c : TrigCfg} {x : Splice}, x ∈ presetOf c.action → c.names x.pattern = true := by
    intro c x hx
    refine (trigCfg_names_iff c x.pattern).2 ⟨x, ?_, rfl⟩
    revert hx
    cases c.action <;> simp [presetOf]
  intro x hx
  cases i with
  | trgA => exact ⟨h.names _ (by simp [Trigger.names, haction (c := g.trgA) hx]), h.skipA x hx⟩
  | trgB => exact ⟨h.names _ (by simp [Trigger.names, haction (c := g.trgB) hx]), h.skipB x hx⟩

theorem levelChanged_core {s : State} (h : Core s) (i : TrigInput) : Core (s.levelChanged i) :=
  h.withTrigger (putCfg_sound h.trigger i (h.trigger.preset i))

theorem operating_of_delivery {s : State} {i : TrigInput} {a : TrigAction}
    (h : s.delivery i = some a) : s.operating = true := by
  by_contra ho
  simp [State.delivery, ho] at h

/-- A trigger row keeps the laws if its action does. -/
theorem triggerRow_core {s : State} (h : Core s) (i : TrigInput) (a : TrigAction)
    {act : State → State} (hact : ∀ t, Core t → t.operating = true → Core (act t)) :
    Core (triggerRow i a act s) := by
  unfold triggerRow
  split
  next hd => exact hact _ (levelChanged_core h i) (operating_of_delivery (s := s) hd)
  · exact h

/-- An action that occurs or leaves the state as it is keeps the laws if its occurrence does. -/
theorem ite_core {c : Prop} [Decidable c] {s t : State} (h : Core s) (ht : c → Core t) :
    Core (if c then t else s) := by
  split
  next hc => exact ht hc
  · exact h

/-- Where a run is live, or the engine is ARMED, the part is at work. -/
theorem Core.working_of_live {s : State} (h : Core s) (hl : s.engine.mode.isLive = true) :
    Working s.link.requests s :=
  h.working_of_ne_idle fun hm => by rw [hm] at hl; cases hl

theorem live_of_rotationLive {e : Engine} (h : e.rotationLive = true) : e.mode.isLive = true := by
  simp only [Engine.rotationLive, Bool.and_eq_true] at h
  exact h.1

theorem startAction_core {s : State} (h : Core s) : Core (startAction s) :=
  ite_core h fun hm => (startRun_working (h.working_of_ne_idle (by simp [hm])) hm).core

theorem stopAction_core {s : State} (h : Core s) : Core (stopAction s) :=
  ite_core h fun hc => by
    have hne : s.engine.mode ≠ .idle ∧ s.engine.mode ≠ .lockout := by
      constructor <;> intro hm <;> simp [hm, EngineState.isLive] at hc
    exact (stopped_working (h.working_of_ne_idle hne.1) hne.2 _).core

theorem releaseAction_core {s : State} (h : Core s) : Core (releaseAction s) :=
  ite_core h fun hr => by
    have hlive : s.engine.rotationLive = true := by
      simp only [Engine.takesRelease, Bool.and_eq_true] at hr
      exact hr.1
    exact (released_working (h.working_of_live (live_of_rotationLive hlive)) hr).core

theorem advanceAction_core {s : State} (h : Core s) : Core (advanceAction s) :=
  ite_core h fun hr => (latchAdvance_working (h.working_of_live (live_of_rotationLive hr))).core

theorem captureAction_core {s : State} (h : Core s) (i : TrigInput) : Core (captureAction i s) :=
  ite_core h fun hl =>
    ((captured_working (h.working_of_live hl) _).notice _ _).core

theorem spliceAction_core {s : State} (h : Core s) (ho : s.operating = true) (i : TrigInput)
    {x : Splice} (hskip : x.skip ≤ 255) : Core (spliceAction i x s) := by
  unfold spliceAction
  split
  · exact h.notice ho _ _
  next hnone =>
    unfold State.spliceRefusal at hnone
    split at hnone
    · cases hnone
    next hgate =>
      have hfits := spliceFits_of_checks hgate hnone
      exact (acceptSplice_working (h.working_of_live (live_of_rotationLive hfits.live)) hfits
        hskip).core

/-- What a splice action delivers is the input's preset (R161). -/
theorem preset_of_delivery {s : State} {i : TrigInput} {x : Splice}
    (h : s.delivery i = some (.splice x)) : x ∈ presetOf (s.trigger.cfg i).action := by
  simp only [State.delivery, TrigCfg.delivers] at h
  split at h
  · split at h
    · rw [Option.some.inj h]
      rfl
    · cases h
  · cases h

theorem spliceTrigger_core {s t : State} (h : Core s) (i : TrigInput)
    (he : execSpliceTrigger i s = .next t) : Core t := by
  unfold execSpliceTrigger at he
  split at he
  next x hd =>
    obtain ⟨_, hskip⟩ := h.trigger.preset i x (preset_of_delivery hd)
    exact Host.Outcome.next.inj he ▸
      spliceAction_core (levelChanged_core h i) (operating_of_delivery (s := s) hd) i hskip
  · exact Host.Outcome.next.inj he ▸ h

/-! ## The run's events (R47, R87, R91, R138, R151) -/

theorem strobe_core {s : State} (h : Core s) (a : Assembly) :
    Core (if s.strobes .rotation then checkStrobe a s.engine.stepRecord (reachStrobe s) else s) :=
  ite_core h fun hs => by
    obtain ⟨hm, _⟩ := (strobes_iff_strobeDue s _).1 hs
    exact (judge_working (reachStrobe_working (h.working_of_ne_idle (by simp [hm]))) _ _ _).core

theorem surveyStrobe_core {s : State} (h : Core s) (a : Assembly) :
    Core (if s.strobes .survey then surveyStrobe a (reachStrobe s) else s) :=
  ite_core h fun hs => by
    obtain ⟨hm, _⟩ := (strobes_iff_strobeDue s _).1 hs
    have hreach := reachStrobe_working (h.working_of_ne_idle (by simp [hm]))
    exact (judge_working (writeEntry_working hreach a) _ _ _).core

theorem stepEnd_core {s : State} (h : Core s) :
    Core (if s.stepEnds .rotation then rotationStepEnd s else s) :=
  ite_core h fun hs => by
    obtain ⟨hm, hk, _⟩ := (stepEnds_iff_stepEndDue s _).1 hs
    have hlive : s.engine.rotationLive = true := by
      simp [Engine.rotationLive, hm, hk, EngineState.isLive]
    exact (rotationStepEnd_working
      ((h.working_of_ne_idle (by simp [hm])).rotating hlive).1).core

theorem surveyStepEnd_core {s : State} (h : Core s) :
    Core (if s.stepEnds .survey then surveyStepEnd s else s) :=
  ite_core h fun hs => by
    obtain ⟨hm, hk, _⟩ := (stepEnds_iff_stepEndDue s _).1 hs
    exact (surveyStepEnd_working (h.working_of_ne_idle (by simp [hm])) hm hk).core

theorem waitTimeout_core {s : State} (h : Core s) :
    Core (if s.engine.mode = .waiting && s.timing.waitTimer.expired then runEnd .waitTimeout s
      else s) :=
  ite_core h fun hc => by
    have hm : s.engine.mode = .waiting := by
      simp only [Bool.and_eq_true, decide_eq_true_eq] at hc
      exact hc.1
    have hworking := h.working_of_ne_idle (by simp [hm])
    exact (runEnd_working hworking.toSteady fun _ =>
      below_of_isLive hworking (by rw [hm]; rfl)).core

/-! ## Every row -/

/-- Every other row, an event or PACK_STORE, keeps the laws. -/
theorem event_core {i : Instr} {s t : State} (h : Core s) (hb : bodyOf i = none)
    (he : exec i s = .next t) : Core t := by
  cases i <;> cases hb
  case fullReset straps => exact Host.Outcome.next.inj he ▸ fullReset_core straps s
  case resetnDeasserted straps =>
    obtain rfl := Host.Outcome.next.inj he
    split
    · exact h
    · exact fullReset_core straps s
  case startUpEnd levelA levelB =>
    obtain rfl := Host.Outcome.next.inj he
    split
    · exact h
    next ho => exact finishStartUp_core h (by simpa using ho) levelA levelB
  case frameComplete f =>
    exact Host.Outcome.next.inj he ▸ ite_core h fun ho => h.completeFrame ho f
  case byteGapTimeout =>
    refine Host.Outcome.next.inj he ▸ ite_core h fun hc => ?_
    simp only [Bool.and_eq_true] at hc
    exact h.withOpenLink hc.1 (discard_sound h.link) rfl (Or.inl rfl)
  case characterReceived b stopBit =>
    obtain ⟨hpower, hreq⟩ := character_keeps s.link b stopBit
    exact Host.Outcome.next.inj he ▸ ite_core h fun ho =>
      h.withOpenLink ho (character_sound h.link b stopBit) hpower hreq
  case frameSent => exact Host.Outcome.next.inj he ▸ frameSent_core h
  case packStore r =>
    exact Host.Outcome.next.inj he ▸ h.serveFrame _ fun _ ht hs => packStore_core ht hs rfl
  case packComplete =>
    revert he
    simp only [exec, execPackComplete]
    split
    next k f rest hk hq => exact fun he => Host.Outcome.next.inj he ▸ packComplete_core h hk hq
    · exact fun he => Host.Outcome.next.inj he ▸ h
  case triggerLevelChange i =>
    exact Host.Outcome.next.inj he ▸ triggerRow_core h i _ fun _ ht _ => ht
  case startTrigger i =>
    exact Host.Outcome.next.inj he ▸ triggerRow_core h i _ fun _ ht _ => startAction_core ht
  case stopTrigger i =>
    exact Host.Outcome.next.inj he ▸ triggerRow_core h i _ fun _ ht _ => stopAction_core ht
  case releaseTrigger i =>
    exact Host.Outcome.next.inj he ▸ triggerRow_core h i _ fun _ ht _ => releaseAction_core ht
  case advanceTrigger i =>
    exact Host.Outcome.next.inj he ▸ triggerRow_core h i _ fun _ ht _ => advanceAction_core ht
  case captureTrigger i =>
    exact Host.Outcome.next.inj he ▸ triggerRow_core h i _ fun _ ht _ => captureAction_core ht i
  case spliceTrigger i => exact spliceTrigger_core h i he
  case strobe a => exact Host.Outcome.next.inj he ▸ strobe_core h a
  case stepEnd => exact Host.Outcome.next.inj he ▸ stepEnd_core h
  case waitTimeout => exact Host.Outcome.next.inj he ▸ waitTimeout_core h
  case surveyStrobe a => exact Host.Outcome.next.inj he ▸ surveyStrobe_core h a
  case surveyStepEnd => exact Host.Outcome.next.inj he ▸ surveyStepEnd_core h

theorem exec_core {i : Instr} {s t : State} (h : Core s) (he : exec i s = .next t) : Core t := by
  cases hb : bodyOf i with
  | some body => exact request_core h hb he
  | none => exact event_core h hb he

/-! ## Every step -/

/-- A tick of the timing unit starts and stops neither the pacer nor the wait timer (R47, R54). -/
theorem timing_tick_keeps (t : Timing) (m : EngineState) :
    (t.tick m).pacer.isSome = t.pacer.isSome ∧
      (t.tick m).waitTimer.running = t.waitTimer.running := by
  constructor <;> unfold Timing.tick <;> dsimp only <;> split
  · exact Option.isSome_map
  · rfl
  · rfl
  · rfl

theorem Core.withTiming {s : State} (h : Core s) {t : Timing}
    (hp : t.pacer.isSome = s.timing.pacer.isSome)
    (hw : t.waitTimer.running = s.timing.waitTimer.running) : Core (s.withTiming t) where
  store := h.store
  rotation := h.rotation
  trigger := h.trigger
  checker := h.checker
  engine := h.engine
  link := h.link
  below := h.below
  phase := runPhase_withTiming h.phase hp hw
  pack := h.pack
  startUp := h.startUp

/-- A tick of a pack in progress (R37). -/
theorem storeTick_core {s : State} (h : Core s) : Core (s.withStore s.store.tick) := by
  refine h.putStore (storeFits_same h.store fun _ => rfl) fun k hk => ?_
  obtain ⟨k₀, hk₀, rfl⟩ := Option.map_eq_some_iff.1 hk
  exact h.pack k₀ hk₀

theorem tick_core {s : State} (h : Core s) : Core (tick s) := by
  obtain ⟨hpacer, hwait⟩ := timing_tick_keeps s.timing s.engine.mode
  have hticked : Core ((s.withStore s.store.tick).withTiming (s.timing.tick s.engine.mode)) :=
    (storeTick_core h).withTiming hpacer hwait
  refine hticked.withLink (l := s.link.tick) (link_tick_sound h.link) (fun _ => rfl) fun hne => ?_
  have ho : s.operating = false := by
    by_contra hop
    rw [Bool.not_eq_false, operating_iff] at hop
    exact hne (by simp [Link.tick, hop, Power.tick])
  obtain ⟨hreq, hout, _⟩ := h.startUp ho
  exact ⟨ho, hreq, hout⟩

/-- The model's queue of waiting commands is no part of the device. -/
theorem Core.withPending {s : State} (h : Core s) (l : List Instr) : Core (s.withPending l) :=
  { store := h.store
    rotation := h.rotation
    trigger := h.trigger
    checker := h.checker
    engine := h.engine
    link := h.link
    below := h.below
    phase := runPhase_congr h.phase (by constructor <;> rfl)
    pack := h.pack
    startUp := h.startUp }

theorem step_core {s t : State} (h : Core s) (he : step s = .next t) : Core t := by
  unfold step at he
  split at he
  · exact Host.Outcome.next.inj he ▸ tick_core h
  next rest _ => exact exec_core (h.withPending rest) he

/-- Settles O60: a step is a tick or a row, both keep the laws regrouped as `Core`, and the three of
the store's form, the FOLLOW banks and the timing are kept on their own. -/
theorem stepKeepsEveryLaw : Obligations.StepKeepsEveryLaw := by
  unfold Obligations.StepKeepsEveryLaw
  intro s t hs he
  obtain ⟨hvectors, hlanes, htiming⟩ := step_keepsForm he
  exact lawful_of_core (step_core (core_of_lawful hs) he) (hvectors hs.storeCanonical)
    ((followLaw_iff t).2 (hlanes ((followLaw_iff s).1 hs.follow)))
    ((timingLaw_iff t).2 (htiming ((timingLaw_iff s).1 hs.timing)))

end Sys2Proof.Machine
end

section
/-! SUPPORT. The requests on one pattern's entry: DEFINE_PATTERN, DELETE_PATTERN, READ_VECTORS and
LIST_PATTERNS (R23, R30, R32 to R35). -/

namespace Sys2Proof.Machine

open Safety

/-! ## Pattern ids and entries -/

theorem patternId_none {b : Byte} (h : 32 ≤ b.toNat) : PatternId.ofByte? b = none :=
  dif_neg (by omega)

theorem patternId_some {b : Byte} {p : PatternId} (h : b.toNat = p.val) :
    PatternId.ofByte? b = some p := by
  have hlt : b.toNat < 32 := h ▸ p.isLt
  rw [PatternId.ofByte?, dif_pos hlt]
  exact congrArg some (Fin.ext h)

theorem isDefined_iff (c : Content) : c.isDefined = true ↔ c ≠ .undefined := by
  cases c <;> simp [Content.isDefined]

theorem putContent_directory_same (t : Store) (p : PatternId) (c : Content) :
    (t.putContent p c).directory[p] = ⟨c, t.directory[p].generation + 1⟩ := by
  simp [Store.putContent]

theorem putContent_directory_other (t : Store) {p r : PatternId} (c : Content) (h : r ≠ p) :
    (t.putContent p c).directory[r] = t.directory[r] := by
  have hval : p.val ≠ r.val := fun hv => h (Fin.ext hv.symm)
  simp [Store.putContent, hval]

/-! ## DEFINE_PATTERN (R23) -/

theorem zeroOrOver_iff (n limit : Nat) : (n = 0 || limit < n) = true ↔ n = 0 ∨ limit < n := by
  simp

/-- Settles O19: the checks of DEFINE_PATTERN one after another, and the entry and the records that
`Store.define` writes. -/
theorem definePatternMakesABlankPattern : Obligations.DefinePatternMakesABlankPattern := by
  unfold Obligations.DefinePatternMakesABlankPattern
  intro r s id h l hpayload hs hm hwf
  have hbody : serveDefinePattern (r.frame Kind.definePattern).payload s =
      definePattern id (num2 h l) s := by rw [Req.frame, hpayload, serveDefinePattern]
  rw [definePattern, unlessLocked_of_ne hm] at hbody
  refine ⟨fun hid => exec_of_refuse rfl rfl rfl hs ?_, fun p hp => ?_⟩
  · rw [hbody, patternId_none hid]
  simp only [patternId_some hp, isDefined_iff] at hbody
  have hguard : 1 ≤ num2 h l → num2 h l ≤ 2048 →
      ¬ (num2 h l = 0 || Config.storeSize < num2 h l) = true := fun hpos hle hg =>
    ((zeroOrOver_iff _ _).1 hg).elim (Nat.ne_of_gt hpos) (Nat.not_lt.2 hle)
  refine ⟨fun hdef => exec_of_refuse rfl rfl rfl hs ?_, fun hdef hlen => exec_of_refuse rfl rfl rfl hs ?_,
    fun hdef hpos hle hnone => exec_of_refuse rfl rfl rfl hs ?_, fun base hdef hpos hle hfit => ?_⟩
  · rw [hbody, if_pos hdef]
  · rw [hbody, if_neg (not_not.2 hdef), if_pos ((zeroOrOver_iff _ Config.storeSize).2 hlen)]
  · rw [hbody, if_neg (not_not.2 hdef), if_neg (hguard hpos hle), hnone]
  · have hread := fun a => Memory.read_clear hwf base (num2 h l) a
    refine ⟨s.store.define p (num2 h l) base, exec_of_accept rfl rfl rfl hs ?_,
      putContent_directory_same _ _ _, fun q hq => putContent_directory_other _ _ hq, rfl,
      fun a hlow hhigh => ?_, fun a hout => ?_⟩
    · have hgen : (s.store.define p (num2 h l) base).directory[p].generation =
          s.store.directory[p].generation + 1 :=
        congrArg DirEntry.generation (putContent_directory_same _ _ _)
      rw [hbody, if_neg (not_not.2 hdef), if_neg (hguard hpos hle), hfit]
      simp only [hgen, Store.figures, ← List.append_assoc]
      rfl
    · exact (hread a).trans (if_pos ⟨hlow, hhigh⟩)
    · exact (hread a).trans (if_neg (by omega))

/-! ## DELETE_PATTERN and references (R30, R33) -/

theorem triggerNames_iff (g : Trigger) (p : PatternId) :
    g.names p = true ↔ (∃ x : Splice, g.trgA.action = .splice x ∧ x.pattern = p) ∨
      ∃ x : Splice, g.trgB.action = .splice x ∧ x.pattern = p := by
  simp only [Trigger.names, Bool.or_eq_true, trigCfg_names_iff]

/-- Settles O23: the checks of DELETE_PATTERN one after another; what names a pattern is spelled out
by the `_names_iff` lemmas of each block. -/
theorem deletePatternSparesNamedPatterns : Obligations.DeletePatternSparesNamedPatterns := by
  unfold Obligations.DeletePatternSparesNamedPatterns
  refine ⟨fun r s id hpayload hs hm => ?_, fun s p => ?_⟩
  · have hbody : serveDeletePattern (r.frame Kind.deletePattern).payload s = deletePattern id s := by
      rw [Req.frame, hpayload, serveDeletePattern]
    rw [deletePattern, unlessLocked_of_ne hm] at hbody
    refine ⟨fun hid => exec_of_refuse rfl rfl rfl hs ?_, fun p hp => ?_⟩
    · rw [hbody, patternId_none hid]
    simp only [patternId_some hp, Bool.not_eq_true', ← Bool.not_eq_true, isDefined_iff] at hbody
    refine ⟨fun hdef => exec_of_refuse rfl rfl rfl hs ?_,
      fun hdef hnamed => exec_of_refuse rfl rfl rfl hs ?_,
      fun hdef hnamed => ⟨s.store.putContent p .undefined, rfl, exec_of_accept rfl rfl rfl hs ?_⟩⟩
    · rw [hbody, if_pos (not_not.2 hdef)]
    · rw [hbody, if_neg (not_not.2 hdef), if_pos hnamed]
    · rw [hbody, if_neg (not_not.2 hdef), if_neg (by simp [hnamed])]
      simp only [putContent_directory_same, Store.figures, ← List.append_assoc]
      rfl
  · have hrun := runNames_iff s p
    simp only [rotation_names_iff, frameNames_iff, spliceNames_iff, triggerNames_iff, or_assoc] at hrun
    refine ⟨?_, ?_⟩
    · rw [isNamed_iff, rotation_names_iff, hrun]
    · rw [State.runReferenced, Bool.and_eq_true, isLive_iff, hrun]

/-! ## READ_VECTORS and LIST_PATTERNS (R32, R34, R35) -/

/-- A byte written as the number it holds is itself (R177). -/
theorem byte_toNat (b : Byte) : byte b.toNat = [b] := by
  simp [byte, bytesOf]

/-- READ_VECTORS of a defined pattern within its length (R32). -/
theorem readVectors_accept {s : State} {id count : Byte} {start : Nat} {p : PatternId}
    (hp : id.toNat = p.val) (hpos : 1 ≤ count.toNat) (hle : count.toNat ≤ 16)
    (hdef : s.store.content p ≠ .undefined)
    (hlen : start + count.toNat ≤ (s.store.content p).length) :
    readVectors id start count.toNat s =
      accept s (byte (s.store.content p).code ++ bytesC s.store.directory[p].generation ++ [count]
        ++ (List.range count.toNat).flatMap fun j => (s.store.vector p (start + j)).bytes) := by
  have hcount : ¬ (count.toNat = 0 || 16 < count.toNat) = true := by
    rw [zeroOrOver_iff]
    omega
  have hisdef := (isDefined_iff _).2 hdef
  simp only [readVectors, patternId_some hp, if_neg hcount, hisdef, Bool.not_true, Bool.false_eq_true,
    if_false, if_neg (Nat.not_lt.2 hlen), byte_toNat]

/-- The code of a defined pattern's state, as a reply writes it (R178). -/
theorem byte_code (c : Content) :
    byte c.code = match c with
      | .undefined => [0]
      | .stored _ _ => [1]
      | .generated _ _ => [2] := by
  cases c <;> simp [byte, bytesOf, Content.code]

/-- Settles O22: READ_VECTORS' checks one after another and the records that `Store.vector` reads;
LIST_PATTERNS' entries by the case of their content. -/
theorem storeIsReadBack : Obligations.StoreIsReadBack := by
  unfold Obligations.StoreIsReadBack
  refine ⟨fun r s id h l count hpayload hs => ?_, fun r s hpayload hs _ => ⟨_, rfl, ?_⟩⟩
  · have hbody : serveReadVectors (r.frame Kind.readVectors).payload s =
        readVectors id (num2 h l) count.toNat s := by rw [Req.frame, hpayload, serveReadVectors]
    refine ⟨fun hrange => exec_of_refuse rfl rfl rfl hs ?_, fun p hp hpos hle => ?_⟩
    · rw [hbody, readVectors]
      rcases hrange with hid | hcount
      · rw [patternId_none hid]
      · cases PatternId.ofByte? id with
        | none => rfl
        | some p => exact if_pos (by simpa using hcount)
    have hcount : ¬ (count.toNat = 0 || 16 < count.toNat) = true := by
      rw [zeroOrOver_iff]
      omega
    have hacc := readVectors_accept (s := s) (start := num2 h l) hp hpos hle
    refine ⟨fun hdef => exec_of_refuse rfl rfl rfl hs ?_,
      fun hdef hlen => exec_of_refuse rfl rfl rfl hs ?_,
      fun n base hc hlen => exec_of_accept rfl rfl rfl hs (hbody.trans ?_),
      fun n g hc hlen => exec_of_accept rfl rfl rfl hs (hbody.trans ?_)⟩
    · rw [hbody, readVectors, patternId_some hp]
      simp only [if_neg hcount, hdef]
      rfl
    · rw [hbody, readVectors, patternId_some hp]
      simp only [if_neg hcount, (isDefined_iff _).2 hdef, Bool.not_true, Bool.false_eq_true, if_false,
        if_pos hlen]
    · rw [hacc (by simp [hc]) (by simpa [hc, Content.length] using hlen)]
      simp only [Store.vector, hc, byte_code]
    · rw [hacc (by simp [hc]) (by simpa [hc, Content.length] using hlen)]
      simp only [Store.vector, hc, byte_code]
  · refine exec_of_accept rfl rfl rfl hs ?_
    rw [Req.frame, hpayload, serveListPatterns, listPatterns, Store.figures]
    congr 2
    refine List.flatMap_congr fun p _ => ?_
    rw [DirEntry.bytes, Store.content]
    cases s.store.directory[p].content <;>
      simp only [Content.code, Content.length, Content.base, Nat.zero_mul, Nat.zero_sub, Nat.add_zero]

end Sys2Proof.Machine
end

section
/-! SUPPORT. Vector records as their bytes, and WRITE_VECTORS (R18, R31, R178). -/

namespace Sys2Proof.Machine

open Safety

/-! ## A record and its bytes (R18, R178) -/

theorem record_bytes_length (v : VectorRec) : v.bytes.length = 13 := by
  simp [VectorRec.bytes]

theorem expect_ofBits_bits (e : Expect) : Expect.ofBits? e.bits = some e := by
  cases e <;> rfl

/-- The expect codes of a record's bytes are the record's. -/
theorem expectField_bytes (v : VectorRec) (n : Lane) : expectField v.bytes n = some v.expect[n] := by
  rw [expectField, laneNibble_bytes, VectorRec.nibble, BitVec.extractLsb'_append_eq_left,
    expect_ofBits_bits]

theorem recordFlags_bytes (v : VectorRec) : recordFlags v.bytes = v.flags := by
  simp [recordFlags, VectorRec.bytes]

/-- The flags byte names flags only, and each by its bit. -/
theorem flags_bits (v : VectorRec) :
    v.flags.toNat < 8 ∧ v.flags.getLsbD 0 = v.wait ∧ v.flags.getLsbD 1 = v.mark ∧
      v.flags.getLsbD 2 = v.nocheck := by
  unfold VectorRec.flags
  generalize v.wait = a
  generalize v.mark = b
  generalize v.nocheck = c
  revert a b c
  decide

theorem wellFormed_bytes (v : VectorRec) : illFormedRecord v.bytes = false := by
  have hflags := (flags_bits v).1
  simp [illFormedRecord, expectField_bytes, recordFlags_bytes, hflags]

/-- A record written in its 13 bytes reads back as itself (R178). -/
theorem ofBytes?_bytes (v : VectorRec) : VectorRec.ofBytes? v.bytes = some v := by
  obtain ⟨_, hwait, hmark, hnocheck⟩ := flags_bits v
  have hdrive : drivesOf v.bytes = v.drive := Vector.ext fun i hi => drivesOf_bytes v ⟨i, hi⟩
  have hexpect : (Vector.ofFn fun n => (expectField v.bytes n).getD .x) = v.expect :=
    Vector.ext fun i hi => by simp [expectField_bytes]
  rw [VectorRec.ofBytes?, if_neg (by simp [wellFormed_bytes])]
  simp only [recordFlags_bytes, hwait, hmark, hnocheck, hdrive, hexpect]

theorem pieces_flatMap_bytes (vs : List VectorRec) :
    pieces 13 vs.length (vs.flatMap VectorRec.bytes) = vs.map VectorRec.bytes := by
  induction vs with
  | nil => rfl
  | cons v vs ih =>
    have hlen := record_bytes_length v
    simp [pieces, hlen, ih]

theorem recordsOf?_map_bytes (vs : List VectorRec) :
    recordsOf? (vs.map VectorRec.bytes) = some vs := by
  induction vs with
  | nil => rfl
  | cons v vs ih => simp only [List.map_cons, recordsOf?, ofBytes?_bytes, ih]

/-- One ill-formed record, and none of the list is taken (R31). -/
theorem recordsOf?_none {l : List (List Byte)} (h : ∃ x ∈ l, illFormedRecord x = true) :
    recordsOf? l = none := by
  induction l with
  | nil => simp at h
  | cons b bs ih =>
    obtain ⟨x, hx, hill⟩ := h
    rw [recordsOf?]
    rcases List.mem_cons.1 hx with rfl | hx
    · simp [VectorRec.ofBytes?, hill]
    · rw [ih ⟨x, hx, hill⟩]
      cases VectorRec.ofBytes? b <;> rfl

/-! ## WRITE_VECTORS (R31) -/

/-- WRITE_VECTORS on a stored pattern, outside LOCKOUT and with a count in range: RANGE beyond the
pattern's length or where a record is ill-formed, else the records are written unless a run refers to
the pattern (R31). -/
theorem writeVectors_stored {s : State} {id : Byte} {p : PatternId} {start count n base : Nat}
    {records : List (List Byte)} (hm : s.engine.mode ≠ .lockout) (hp : id.toNat = p.val)
    (hpos : 1 ≤ count) (hle : count ≤ 16) (hc : s.store.content p = .stored n base) :
    (n < start + count ∨ recordsOf? records = none →
      writeVectors id start count records s = refuse .range s) ∧
    ∀ vs, start + count ≤ n → recordsOf? records = some vs →
      writeVectors id start count records s =
        if s.runReferenced p then refuse .inUse s
        else accept (s.withStore (s.store.writeVectors p start vs))
          (bytesC (s.store.directory[p].generation + 1)) := by
  have hcount : ¬ (count = 0 || 16 < count) = true := by
    rw [zeroOrOver_iff]
    omega
  have hgen : ∀ vs, (s.store.writeVectors p start vs).directory[p].generation =
      s.store.directory[p].generation + 1 := fun _ =>
    congrArg DirEntry.generation (putContent_directory_same _ _ _)
  rw [writeVectors, unlessLocked_of_ne hm, patternId_some hp]
  simp only [if_neg hcount, hc, hgen]
  refine ⟨fun hrange => ?_, fun vs hfit hvs => ?_⟩
  · split
    · rfl
    next hfit => rw [hrange.resolve_left hfit]
  · rw [if_neg (Nat.not_lt.2 hfit), hvs]

/-- What every record reads as after a list of writes from `a` up (R31). -/
theorem read_writeAll_inside {m : Memory} (h : m.wf) (a : Nat) {vs : List VectorRec} {j : Nat}
    {v : VectorRec} (hj : vs[j]? = some v) : (m.writeAll a vs).read (a + j) = v := by
  rw [Memory.read_writeAll h, if_pos (Nat.le_add_right a j), Nat.add_sub_cancel_left, hj]
  rfl

theorem read_writeAll_outside {m : Memory} (h : m.wf) (a : Nat) (vs : List VectorRec) {b : Nat}
    (hb : b < a ∨ a + vs.length ≤ b) : (m.writeAll a vs).read b = m.read b := by
  rw [Memory.read_writeAll h]
  split
  · rw [List.getElem?_eq_none (by omega)]
    rfl
  · rfl

/-- Settles O21: WRITE_VECTORS' checks one after another, `Memory.writeAll` for what every record reads
as, and the codes of a record's bytes for the last claim. -/
theorem writeVectorsReplacesRecords : Obligations.WriteVectorsReplacesRecords := by
  unfold Obligations.WriteVectorsReplacesRecords
  refine ⟨fun r s id h l count body hpayload hlen hs hm hwf => ?_,
    fun v => ⟨record_bytes_length v, ofBytes?_bytes v⟩⟩
  have hbody : serveWriteVectors (r.frame Kind.writeVectors).payload s =
      writeVectors id (num2 h l) count.toNat (pieces 13 count.toNat body) s := by
    rw [Req.frame, hpayload, serveWriteVectors, if_pos hlen]
  refine ⟨fun hrange => exec_of_refuse rfl rfl rfl hs ?_, fun p hp hpos hle => ?_⟩
  · rw [hbody, writeVectors, unlessLocked_of_ne hm]
    rcases hrange with hid | hcount
    · rw [patternId_none hid]
    · cases PatternId.ofByte? id with
      | none => rfl
      | some p => exact if_pos ((zeroOrOver_iff _ _).2 hcount)
  have hcount : ¬ (count.toNat = 0 || 16 < count.toNat) = true := by
    rw [zeroOrOver_iff]
    omega
  refine ⟨fun hc => exec_of_refuse rfl rfl rfl hs ?_, fun n g hc => exec_of_refuse rfl rfl rfl hs ?_,
    fun n base hc => ?_⟩
  · rw [hbody, writeVectors, unlessLocked_of_ne hm, patternId_some hp]
    simp only [if_neg hcount, hc]
  · rw [hbody, writeVectors, unlessLocked_of_ne hm, patternId_some hp]
    simp only [if_neg hcount, hc]
  obtain ⟨hrange, hwritten⟩ := writeVectors_stored (start := num2 h l)
    (records := pieces 13 count.toNat body) hm hp hpos hle hc
  refine ⟨fun hover => exec_of_refuse rfl rfl rfl hs ?_,
    fun hfit hill => exec_of_refuse rfl rfl rfl hs ?_, fun vs hfit hvs hflat => ?_⟩
  · exact hbody.trans (hrange (Or.inl hover))
  · exact hbody.trans (hrange (Or.inr (recordsOf?_none hill)))
  have hrecords : recordsOf? (pieces 13 count.toNat body) = some vs := by
    rw [hflat, ← hvs, pieces_flatMap_bytes, recordsOf?_map_bytes]
  rw [hwritten vs hfit hrecords] at hbody
  refine ⟨fun href => exec_of_refuse rfl rfl rfl hs ?_, fun href =>
    ⟨s.store.vectors.writeAll (base + num2 h l) vs, exec_of_accept rfl rfl rfl hs ?_,
      Memory.writeAll_wf hwf _ _, fun j v hj => read_writeAll_inside hwf _ hj,
      fun a ha => read_writeAll_outside hwf _ _ (by rw [hvs]; exact ha)⟩⟩
  · rw [hbody]
    exact if_pos href
  · rw [hbody]
    simp only [href, Bool.false_eq_true, if_false, Store.writeVectors, hc]
    rfl

end Sys2Proof.Machine
end

section
/-! SUPPORT. Generated patterns: ranks, the count kind's seed, DEFINE_GENERATOR, and the vectors (R24 to
R29). -/

namespace Sys2Proof.Machine

open Safety

/-! ## DEFINE_GENERATOR (R24) -/

/-- DEFINE_GENERATOR's numeric checks refuse what is out of range (R24). -/
theorem generatorOutOfRange_iff (mask : LaneSet) (step length : Nat) :
    (mask = 0 || 23 < step || length = 0 || Config.maxGenerated < length) = true ↔
      mask = 0 ∨ 23 < step ∨ length = 0 ∨ Config.maxGenerated < length := by
  simp only [Bool.or_eq_true, decide_eq_true_eq, or_assoc]

/-- DEFINE_GENERATOR on an undefined pattern: RANGE where a byte names no value or a number is out of
range, else the generated entry (R24). -/
theorem defineGenerator_undefined {s : State} {id kind expect : Byte} {mask seed : LaneSet}
    {step length : Nat} {p : PatternId} (hm : s.engine.mode ≠ .lockout) (hp : id.toNat = p.val)
    (hc : s.store.content p = .undefined) :
    (GenKind.ofByte? kind = none ∨ mask = 0 ∨ 23 < step ∨ length = 0 ∨ 1024 < length ∨
        ExpectMode.ofByte? expect = none →
      defineGenerator id kind mask seed step length expect s = refuse .range s) ∧
    ∀ k x, GenKind.ofByte? kind = some k → ExpectMode.ofByte? expect = some x → mask ≠ 0 →
      step ≤ 23 → 1 ≤ length → length ≤ 1024 →
      defineGenerator id kind mask seed step length expect s =
        accept (s.withStore (s.store.putContent p (.generated length ⟨k, mask, seed, step, x⟩)))
          (bytesC (s.store.directory[p].generation + 1)) := by
  have hundef : ¬ (s.store.content p).isDefined = true := by simp [hc, Content.isDefined]
  rw [defineGenerator, unlessLocked_of_ne hm, patternId_some hp]
  simp only [if_neg hundef]
  refine ⟨fun hrange => ?_, fun k x hk hx hmask hstep hpos hle => ?_⟩
  · cases hk : GenKind.ofByte? kind with
    | none => rfl
    | some k =>
      cases hx : ExpectMode.ofByte? expect with
      | none => rfl
      | some x =>
        have hnumber : mask = 0 ∨ 23 < step ∨ length = 0 ∨ 1024 < length := by
          simpa [hk, hx] using hrange
        exact if_pos ((generatorOutOfRange_iff _ _ _).2 hnumber)
  · rw [hk, hx]
    refine (if_neg fun hg => ?_).trans ?_
    · rcases (generatorOutOfRange_iff _ _ _).1 hg with h0 | h1 | h2 | h3
      · exact hmask h0
      · omega
      · omega
      · exact Nat.not_lt.2 hle h3
    · rw [putContent_directory_same]

/-! ## Ranks and the seed as a number (R25, R28) -/

/-- Of two masked lanes the lower has the lower rank. -/
theorem rank_lt {g : Generator} {m n : Lane} (hm : hasLane g.mask m = true) (hmn : m < n) :
    g.rank m < g.rank n := by
  have hsub : ((lanesOf g.mask).filter (· < m)).Sublist ((lanesOf g.mask).filter (· < n)) :=
    List.monotone_filter_right _ fun x hx => by
      simp only [decide_eq_true_eq] at hx ⊢
      exact lt_trans hx hmn
  refine Nat.lt_of_le_of_ne hsub.length_le fun hlen => ?_
  have hmem : m ∈ (lanesOf g.mask).filter (· < n) := by simp [hm, hmn]
  rw [← hsub.eq_of_length hlen] at hmem
  simp at hmem

/-- A masked lane's rank is below the number of masked lanes. -/
theorem rank_lt_laneCount {g : Generator} {n : Lane} (hn : hasLane g.mask n = true) :
    g.rank n < laneCount g.mask := by
  have hsub : ((lanesOf g.mask).filter (· < n)).Sublist (lanesOf g.mask) := List.filter_sublist
  refine Nat.lt_of_le_of_ne hsub.length_le fun hlen => ?_
  have hmem : n ∈ lanesOf g.mask := (mem_lanesOf _ _).2 hn
  rw [← hsub.eq_of_length hlen] at hmem
  simp at hmem

theorem rank_injective {g : Generator} {m n : Lane} (hm : hasLane g.mask m = true)
    (hn : hasLane g.mask n = true) (h : g.rank m = g.rank n) : m = n := by
  rcases lt_trichotomy m n with hlt | heq | hgt
  · exact absurd h (Nat.ne_of_lt (rank_lt hm hlt))
  · exact heq
  · exact absurd h (Nat.ne_of_gt (rank_lt hn hgt))

/-- The ranks of the seed's masked lanes are the bits of the seed's number. -/
theorem bitIndices_seedCount (g : Generator) :
    g.seedCount.bitIndices = (lanesOf (g.mask &&& g.seed)).map g.rank := by
  have hsorted : ((lanesOf (g.mask &&& g.seed)).map g.rank).Pairwise (· < ·) := by
    refine List.pairwise_map.2 ((lanesOf_ascending _).imp_of_mem fun hm _ hmn => rank_lt ?_ hmn)
    simp only [mem_lanesOf, hasLane_and, Bool.and_eq_true] at hm
    exact hm.1
  rw [← Nat.bitIndices_sum_map_two_pow hsorted.sortedLT, List.map_map]
  rfl

theorem testBit_seedCount (g : Generator) (i : Nat) :
    g.seedCount.testBit i = true ↔
      ∃ m, (hasLane g.mask m = true ∧ hasLane g.seed m = true) ∧ g.rank m = i := by
  rw [← Nat.mem_bitIndices, bitIndices_seedCount]
  simp

theorem seedCount_lt (g : Generator) : g.seedCount < 2 ^ laneCount g.mask := by
  refine Nat.lt_pow_two_of_testBit _ fun i hi => ?_
  by_contra hbit
  obtain ⟨m, ⟨hmask, _⟩, rfl⟩ := (testBit_seedCount g i).1 (by simpa using hbit)
  exact absurd (rank_lt_laneCount hmask) (Nat.not_lt.2 hi)

/-- The bit of a masked lane's rank says whether the seed has the lane. -/
theorem testBit_rank {g : Generator} {n : Lane} (hn : hasLane g.mask n = true) :
    g.seedCount.testBit (g.rank n) = hasLane g.seed n := by
  rw [Bool.eq_iff_iff, testBit_seedCount]
  constructor
  · rintro ⟨m, ⟨hm, hseed⟩, hrank⟩
    exact rank_injective hm hn hrank ▸ hseed
  · exact fun hseed => ⟨n, ⟨hn, hseed⟩, rfl⟩

/-! ## The vectors (R25 to R29) -/

/-- A lane is the start set's lane moved up by `r` lanes, cyclically (R27). -/
theorem rotatedFrom_eq_iff {n m : Lane} {r : Nat} (hr : r < 24) :
    rotatedFrom n r = m ↔ n.val = (m.val + r) % 24 := by
  rw [Fin.ext_iff, rotatedFrom]
  simp only
  omega

theorem rank_eq (g : Generator) (n : Lane) :
    g.rank n = ((List.finRange 24).filter fun m => hasLane g.mask m ∧ m < n).length := by
  rw [Generator.rank, lanesOf, List.filter_filter]
  congr 2
  funext m
  rw [Bool.and_comm]
  simp

/-- Settles O20: the checks of DEFINE_GENERATOR one after another; the lanes driven to 1 are
`Generator.drivesOne`, of which each kind's claim is one case. -/
theorem generatedPatternsFollowTheirKind : Obligations.GeneratedPatternsFollowTheirKind := by
  unfold Obligations.GeneratedPatternsFollowTheirKind
  refine ⟨fun r s id kind m2 m1 m0 d2 d1 d0 step h l expect hpayload hs hm => ?_, fun g i => ?_⟩
  · have hbody : serveDefineGenerator (r.frame Kind.defineGenerator).payload s =
        defineGenerator id kind (laneSet3 m2 m1 m0) (laneSet3 d2 d1 d0) step.toNat (num2 h l) expect
          s := by rw [Req.frame, hpayload, serveDefineGenerator]
    refine ⟨fun hid => exec_of_refuse rfl rfl rfl hs ?_, fun p hp => ?_⟩
    · rw [hbody, defineGenerator, unlessLocked_of_ne hm, patternId_none hid]
    refine ⟨fun hdef => exec_of_refuse rfl rfl rfl hs ?_,
      fun hc hrange => exec_of_refuse rfl rfl rfl hs ?_,
      fun k x hc hk hx hmask hstep hpos hle => exec_of_accept rfl rfl rfl hs ?_⟩
    · rw [hbody, defineGenerator, unlessLocked_of_ne hm, patternId_some hp]
      exact if_pos ((isDefined_iff _).2 hdef)
    · exact hbody.trans ((defineGenerator_undefined hm hp hc).1 hrange)
    · exact hbody.trans ((defineGenerator_undefined hm hp hc).2 k x hk hx hmask hstep hpos hle)
  · intro k rank seed
    have hrank : ∀ n, g.rank n = rank n := rank_eq g
    have hseed : ∀ n, hasLane (g.mask &&& g.seed) n = seed n := fun n => hasLane_and _ _ n
    refine ⟨g.drivesOne i, fun hk n => ?_, fun hk n => ?_, fun hk n => ?_, fun hk => ?_,
      fun hk n => ?_, fun n => ?_, fun n => ?_, rfl, rfl, rfl⟩
    case refine_1 => simp only [Generator.drivesOne, hk, hrank, k]
    case refine_2 =>
      simp only [Generator.drivesOne, hk, hrank, k, bne, beq_eq_decide, decide_not, ne_eq]
    case refine_3 =>
      have hr : i * g.step % 24 < 24 := Nat.mod_lt _ (by decide)
      simp only [Generator.drivesOne, hk, hseed, ← rotatedFrom_eq_iff hr]
      simp
    case refine_4 =>
      refine ⟨g.seedCount, seedCount_lt g, fun n hn => ?_, fun n => ?_⟩
      · rw [← hrank, testBit_rank hn, ← hseed, hasLane_and, hn, Bool.true_and]
      · simp only [Generator.drivesOne, hk, hrank, k]
    case refine_5 =>
      simp only [Generator.drivesOne, hk, hseed]
      rcases Nat.mod_two_eq_zero_or_one i with hi | hi <;> simp [hi]
    case refine_6 =>
      have hdrive : (g.vector i).drive[n] = g.driveOf i n := by simp [Generator.vector]
      rw [hdrive, Generator.driveOf]
      cases hasLane g.mask n <;> simp
    case refine_7 =>
      have hexpect : (g.vector i).expect[n] = g.expectOf i n := by simp [Generator.vector]
      rw [hexpect, Generator.expectOf]
      cases hasLane g.mask n <;> cases g.expect <;> simp

end Sys2Proof.Machine
end

section
/-! SUPPORT. One reference tick, and the pacer's ticks from a step start to its end (R47). -/

namespace Sys2Proof.Machine

open Safety

/-! ## The pacer after `n` ticks (R47) -/

/-- The pacer of a step of prescaled tick `p` after `n` of its reference ticks (R47). -/
def pacerAt (p period strobe n : Nat) : PacerStep := ⟨p, period, strobe, n / p, n % p⟩

/-- The tick after `n` ticks completes the count below `c` exactly where it is the last before `c·p`. -/
theorem completes_iff {p : Nat} (hp : 1 ≤ p) (n c : Nat) :
    n / p + 1 = c ∧ p ≤ n % p + 1 ↔ n + 1 = c * p := by
  constructor
  · rintro ⟨rfl, hend⟩
    have hlt := Nat.mod_lt n hp
    have hn := Nat.div_add_mod n p
    rw [Nat.succ_mul, Nat.mul_comm]
    omega
  · intro hn
    obtain ⟨d, rfl⟩ : ∃ d, c = d + 1 := by
      cases c with
      | zero => omega
      | succ d => exact ⟨d, rfl⟩
    rw [Nat.succ_mul, Nat.mul_comm] at hn
    obtain ⟨hdiv, hmod⟩ := (Nat.div_mod_unique (a := n) (d := d) (c := p - 1) hp).2
      ⟨by omega, Nat.sub_lt hp Nat.one_pos⟩
    rw [hdiv, hmod]
    exact ⟨rfl, by omega⟩

theorem pacerAt_strobeDue_iff {p : Nat} (hp : 1 ≤ p) (period strobe n : Nat) :
    (pacerAt p period strobe n).strobeDue = true ↔ n + 1 = strobe * p :=
  (PacerStep.strobeDue_iff _).trans (completes_iff hp n strobe)

theorem pacerAt_endDue_iff {p : Nat} (hp : 1 ≤ p) {period strobe n : Nat} (hn : n < period * p) :
    (pacerAt p period strobe n).endDue = true ↔ n + 1 = period * p := by
  rw [PacerStep.endDue_iff, ← completes_iff hp n period]
  have hcount : n / p < period := (Nat.div_lt_iff_lt_mul hp).2 hn
  show period ≤ n / p + 1 ∧ p ≤ n % p + 1 ↔ _
  constructor
  · exact fun ⟨hc, hend⟩ => ⟨by omega, hend⟩
  · exact fun ⟨hc, hend⟩ => ⟨by omega, hend⟩

/-- A tick at which nothing is due is one tick more of the step. -/
theorem tick_pacerAt {p : Nat} (hp : 1 ≤ p) {period strobe n : Nat} (hs : n + 1 ≠ strobe * p)
    (he : n + 1 < period * p) :
    (pacerAt p period strobe n).tick = pacerAt p period strobe (n + 1) := by
  have hn := Nat.div_add_mod n p
  by_cases hwithin : n % p + 1 < p
  · obtain ⟨hdiv, hmod⟩ := (Nat.div_mod_unique (a := n + 1) (d := n / p) (c := n % p + 1) hp).2
      ⟨by omega, hwithin⟩
    rw [PacerStep.tick_within hwithin]
    simp only [pacerAt, hdiv, hmod]
  · have hends : n + 1 = (n / p + 1) * p :=
      (completes_iff hp n _).1 ⟨rfl, Nat.not_lt.1 hwithin⟩
    have hcount : n / p + 1 ≠ strobe := fun hc => hs (hc ▸ hends)
    have hperiod : n / p + 1 < period := by
      rw [hends] at he
      exact Nat.lt_of_mul_lt_mul_right he
    rw [PacerStep.tick_across (Nat.not_lt.1 hwithin) hcount hperiod]
    simp only [pacerAt, hends, Nat.mul_div_cancel _ hp, Nat.mul_mod_left]

/-- Ticks at none of which anything is due (R47). -/
theorem iterate_tick_pacerAt {p : Nat} (hp : 1 ≤ p) {period strobe first : Nat} {n : Nat}
    (h : ∀ j, first ≤ j → j < first + n → j + 1 ≠ strobe * p ∧ j + 1 < period * p) :
    PacerStep.tick^[n] (pacerAt p period strobe first) = pacerAt p period strobe (first + n) := by
  induction n with
  | zero => rfl
  | succ n ih =>
    obtain ⟨hs, he⟩ := h (first + n) (by omega) (by omega)
    rw [Function.iterate_succ_apply', ih fun j hlow hhigh => h j hlow (by omega),
      tick_pacerAt hp hs he]
    rfl

/-! ## A step with no command waiting (R37, R47, R53, R169, R176) -/

theorem timing_tick_pacer_running {t : Timing} {k : PacerStep} (h : t.pacer = some k) :
    (t.tick .running).pacer = some k.tick := by
  simp [Timing.tick, h]

/-- Settles O2: an idle step is `tick`, block by block; the pacer's ticks are `pacerAt` counted on. -/
theorem idleStepIsOneTick : Obligations.IdleStepIsOneTick := by
  unfold Obligations.IdleStepIsOneTick
  refine ⟨fun s hpending => ⟨tick s, ?_, rfl, rfl, rfl, rfl, rfl, rfl, hpending, rfl, rfl, fun hm => ?_,
    fun hm hnone => ?_, fun k hm hk => ?_, ?_, rfl, fun ho => ?_, fun n hn => ?_, fun hf => ?_,
    fun bytes gap hf => ?_⟩, fun p period strobe hp hs hlt => ⟨fun n hn => ?_, fun n hlow hhigh => ?_⟩⟩
  case refine_1 => simp only [step, hpending]
  case refine_2 => exact if_neg hm
  case refine_3 => simp [tick, Timing.tick, hnone]
  case refine_4 =>
    have htick : (tick s).timing.pacer = some k.tick := by
      rw [← timing_tick_pacer_running hk, ← hm]
      rfl
    rw [htick]
    refine ⟨fun hwithin => ?_, fun hends hstrobe hperiod => ?_, fun hends hdue => ?_⟩
    · rw [PacerStep.tick_within hwithin]
    · rw [PacerStep.tick_across hends hstrobe hperiod]
    · rw [PacerStep.tick_of_due]
      rw [PacerStep.strobeDue_iff, PacerStep.endDue_iff]
      exact hdue.imp (⟨·, hends⟩) (⟨·, hends⟩)
  case refine_5 => simp [tick, Timing.tick]
  case refine_6 => simp [tick, Link.tick, ho, Power.tick]
  case refine_7 => simp [tick, Link.tick, hn, Power.tick]
  case refine_8 => simp [tick, Link.tick, hf, Framer.tick]
  case refine_9 => simp [tick, Link.tick, hf, Framer.tick, Config.gapTicks]
  case refine_10 =>
    have hle : strobe * p ≤ period * p := Nat.mul_le_mul_right p (Nat.le_of_lt hlt)
    have hstart : pacerAt p period strobe 0 = ⟨p, period, strobe, 0, 0⟩ := by simp [pacerAt]
    have hiterate := iterate_tick_pacerAt hp (period := period) (strobe := strobe) (first := 0)
      (n := n) fun j _ hj => ⟨by omega, by omega⟩
    rw [hstart, Nat.zero_add] at hiterate
    exact ⟨hiterate, pacerAt_strobeDue_iff hp period strobe n⟩
  case refine_11 =>
    have hstrobe : pacerAt p period strobe (strobe * p) = ⟨p, period, strobe, strobe, 0⟩ := by
      simp only [pacerAt, Nat.mul_div_cancel _ hp, Nat.mul_mod_left]
    have hiterate := iterate_tick_pacerAt hp (period := period) (strobe := strobe)
      (first := strobe * p) (n := n - strobe * p) fun j _ hj => ⟨by omega, by omega⟩
    rw [hstrobe, Nat.add_sub_cancel' hlow] at hiterate
    exact ⟨hiterate, pacerAt_endDue_iff hp hhigh⟩

end Sys2Proof.Machine
end

section
/-! SUPPORT. Conversions from nanoseconds, the choice of prescale with the accepted periods, and the
requests SET_TIMING and READ_TIMING (R41 to R46). -/

namespace Sys2Proof.Machine

open Safety

/-! ## One conversion (R42) -/

/-- What a rounding mode adds to the quotient `q` for a remainder `r` of a division by `d` (R42). -/
def Rounding.carry (mode : Rounding) (d q r : Nat) : Nat :=
  match mode with
  | .down => 0
  | .up => if r = 0 then 0 else 1
  | .nearest => if 2 * r < d then 0 else if d < 2 * r then 1 else q % 2

/-- A conversion in quotient and remainder by the prescaled tick. -/
theorem convertNs_of_div {p ns q r : Nat} (hns : ns = q * (20 * p) + r) (hr : r < 20 * p)
    (mode : Rounding) : convertNs mode ns p = q + mode.carry (20 * p) q r := by
  obtain ⟨hdiv, hmod⟩ := (Nat.div_mod_unique (a := ns) (d := q) (Nat.zero_lt_of_lt hr)).2
    ⟨by rw [hns, Nat.mul_comm, Nat.add_comm], hr⟩
  cases mode with
  | down => exact hdiv
  | up =>
    simp only [convertNs, Rounding.carry, prescaledNs, Config.tickNs, hdiv, hmod]
    split <;> rfl
  | nearest =>
    simp only [convertNs, Rounding.carry, prescaledNs, Config.tickNs, hdiv, hmod]
    split
    · rfl
    · split
      · rfl
      · rcases Nat.mod_two_eq_zero_or_one q with h | h <;> simp [h]

theorem inexactNs_of_div {p ns q r : Nat} (hns : ns = q * (20 * p) + r) (hr : r < 20 * p) :
    inexactNs ns p = true ↔ r ≠ 0 := by
  have hmod : ns % prescaledNs p = r := by
    rw [hns, prescaledNs, Config.tickNs, Nat.mul_add_mod_self_right, Nat.mod_eq_of_lt hr]
  simp [inexactNs, hmod]

/-- Settles O25: the three modes' carries, by the remainder. -/
theorem conversionRoundsTheQuotient : Obligations.ConversionRoundsTheQuotient := by
  unfold Obligations.ConversionRoundsTheQuotient
  intro p ns q r hp hns hr
  have hconvert := convertNs_of_div hns hr
  refine ⟨inexactNs_of_div hns hr, fun hzero mode => ?_, fun hne => ⟨hconvert .down, ?_, fun h => ?_,
    fun h => ?_, fun h => ?_⟩⟩
  · cases mode <;> simp [hconvert, Rounding.carry, hzero, hp]
  · simp [hconvert, Rounding.carry, hne]
  · simp [hconvert, Rounding.carry, h]
  · simp [hconvert, Rounding.carry, h, Nat.lt_asymm h]
  · simp [hconvert, Rounding.carry, h]

/-! ## The choice of prescale (R43) -/

/-- In an ascending list the first entry with a property is the one with it below which none has it. -/
theorem find?_eq_some_iff_least {q : Nat → Bool} {m : Nat} {xs : List Nat}
    (ho : xs.Pairwise (· < ·)) :
    xs.find? q = some m ↔ m ∈ xs ∧ q m = true ∧ ∀ n ∈ xs, n < m → q n = false := by
  induction xs with
  | nil => simp
  | cons x xs ih =>
    obtain ⟨hx, hxs⟩ := List.pairwise_cons.1 ho
    by_cases hq : q x = true
    · rw [List.find?_cons_of_pos hq]
      constructor
      · rintro ⟨⟩
        refine ⟨List.mem_cons_self .., hq, fun n hn hlt => ?_⟩
        rcases List.mem_cons.1 hn with rfl | hn
        · exact absurd hlt (Nat.lt_irrefl _)
        · exact absurd hlt (Nat.lt_asymm (hx n hn))
      · rintro ⟨hm, _, hleast⟩
        rcases List.mem_cons.1 hm with rfl | hm
        · rfl
        · rw [hleast x (List.mem_cons_self ..) (hx m hm)] at hq
          cases hq
    · rw [List.find?_cons_of_neg hq, ih hxs]
      have hm (h : q m = true) : m ≠ x := fun e => hq (e ▸ h)
      constructor
      · rintro ⟨hmem, hqm, hleast⟩
        exact ⟨List.mem_cons_of_mem _ hmem, hqm, List.forall_mem_cons.2
          ⟨fun _ => Bool.eq_false_iff.2 hq, hleast⟩⟩
      · rintro ⟨hmem, hqm, hleast⟩
        exact ⟨List.mem_of_ne_of_mem (hm hqm) hmem, hqm, (List.forall_mem_cons.1 hleast).2⟩

/-- The prescale chosen is the smallest at which the period fits (R43). -/
theorem choosePrescale_eq_some_iff (mode : Rounding) (ns p : Nat) :
    choosePrescale mode ns = some p ↔
      p ∈ Config.prescales ∧ convertNs mode ns p ≤ 65535 ∧
        ∀ q ∈ Config.prescales, q < p → 65535 < convertNs mode ns q := by
  have hascending : Config.prescales.Pairwise (· < ·) := by decide
  rw [choosePrescale, find?_eq_some_iff_least hascending]
  simp only [decide_eq_true_eq, decide_eq_false_iff_not, Nat.not_le]
  rfl

/-- What a conversion to a timing set answers (R41 checks 4 and 5; R43, R44). -/
theorem convertTiming_eq_some_iff (mode : Rounding) (periodNs strobeNs : Nat) (t : TimingSet) :
    convertTiming mode periodNs strobeNs = some t ↔
      ∃ p, choosePrescale mode periodNs = some p ∧ 2 ≤ convertNs mode periodNs p ∧
        1 ≤ convertNs mode strobeNs p ∧ convertNs mode strobeNs p < convertNs mode periodNs p ∧
        t = ⟨p, convertNs mode periodNs p, convertNs mode strobeNs p, periodNs, strobeNs,
          inexactNs periodNs p || inexactNs strobeNs p⟩ := by
  unfold convertTiming
  cases hp : choosePrescale mode periodNs with
  | none => simp
  | some p =>
    simp only [Option.some.injEq, exists_eq_left', Bool.or_eq_true, decide_eq_true_eq]
    by_cases hperiod : 2 ≤ convertNs mode periodNs p
    · by_cases hstrobe : 1 ≤ convertNs mode strobeNs p ∧
          convertNs mode strobeNs p < convertNs mode periodNs p
      · rw [if_neg (by omega), if_neg (by omega)]
        simp [hperiod, hstrobe, eq_comm]
      · rw [if_neg (by omega), if_pos (by omega)]
        simp only [reduceCtorEq, false_iff]
        exact fun ⟨_, hs, hlt, _⟩ => hstrobe ⟨hs, hlt⟩
    · rw [if_pos (by omega)]
      simp [hperiod]

/-! ## The accepted periods (R44) -/

/-- The least time that converts to more than `n` ticks, for an odd `n`: NEAREST takes the quotient
halfway above `n` to the even number, up. -/
def Rounding.overNs (mode : Rounding) (n p : Nat) : Nat :=
  match mode with
  | .nearest => (2 * n + 1) * (10 * p)
  | .down => (n + 1) * (20 * p)
  | .up => n * (20 * p) + 1

theorem Rounding.overNs_nearest (n p : Nat) :
    Rounding.nearest.overNs n p = n * (20 * p) + 10 * p := by
  rw [Rounding.overNs]
  ring

theorem Rounding.overNs_down (n p : Nat) :
    Rounding.down.overNs n p = n * (20 * p) + 20 * p := Nat.add_one_mul ..

/-- It lies above `n` ticks, and no further than at `n + 1` of them. -/
theorem Rounding.overNs_bounds (mode : Rounding) (n : Nat) {p : Nat} (hp : 0 < p) :
    n * (20 * p) < mode.overNs n p ∧ mode.overNs n p ≤ n * (20 * p) + 20 * p := by
  cases mode with
  | nearest =>
    rw [overNs_nearest]
    omega
  | down =>
    rw [overNs_down]
    omega
  | up =>
    rw [overNs]
    omega

theorem Rounding.carry_le_one (mode : Rounding) (d q r : Nat) : mode.carry d q r ≤ 1 := by
  cases mode with
  | nearest =>
    simp only [carry]
    split
    · omega
    · split <;> omega
  | down => exact Nat.zero_le 1
  | up =>
    simp only [carry]
    split <;> omega

/-- With an odd quotient, the carry is made from the least time over it on. -/
theorem Rounding.carry_pos_iff (mode : Rounding) {p q r : Nat} (hq : q % 2 = 1) (hr : r < 20 * p) :
    0 < mode.carry (20 * p) q r ↔ mode.overNs q p ≤ q * (20 * p) + r := by
  cases mode with
  | nearest =>
    rw [overNs_nearest]
    simp only [carry]
    split
    · omega
    · split <;> omega
  | down =>
    rw [overNs_down, carry]
    omega
  | up =>
    simp only [carry, overNs]
    split <;> omega

theorem lt_convertNs_iff (mode : Rounding) {n p : Nat} (hn : n % 2 = 1) (hp : 0 < p) (ns : Nat) :
    n < convertNs mode ns p ↔ mode.overNs n p ≤ ns := by
  obtain ⟨q, r, hns, hr⟩ : ∃ q r, ns = q * (20 * p) + r ∧ r < 20 * p :=
    ⟨ns / (20 * p), ns % (20 * p), (Nat.div_add_mod' ns (20 * p)).symm, Nat.mod_lt _ (by omega)⟩
  obtain ⟨hover, hnext⟩ := mode.overNs_bounds n hp
  have hcarry := mode.carry_le_one (20 * p) q r
  rw [convertNs_of_div hns hr, hns]
  rcases Nat.lt_trichotomy q n with hlt | rfl | hgt
  · have hle : (q + 1) * (20 * p) ≤ n * (20 * p) := Nat.mul_le_mul_right _ hlt
    rw [Nat.add_one_mul] at hle
    omega
  · rw [← mode.carry_pos_iff hn hr]
    omega
  · have hle : (n + 1) * (20 * p) ≤ q * (20 * p) := Nat.mul_le_mul_right _ hgt
    rw [Nat.add_one_mul] at hle
    omega

theorem Rounding.overNs_mono (mode : Rounding) (n : Nat) {p q : Nat} (h : p ≤ q) :
    mode.overNs n p ≤ mode.overNs n q := by
  cases mode with
  | nearest => exact Nat.mul_le_mul_left _ (Nat.mul_le_mul_left _ h)
  | down => exact Nat.mul_le_mul_left _ (Nat.mul_le_mul_left _ h)
  | up => exact Nat.succ_le_succ (Nat.mul_le_mul_left _ (Nat.mul_le_mul_left _ h))

theorem prescale_le {p : Nat} (h : p ∈ Config.prescales) : p ≤ 128 := by
  revert p
  decide

theorem convertNs_le_iff (mode : Rounding) {p : Nat} (hp : p ∈ Config.prescales) (ns : Nat) :
    convertNs mode ns p ≤ 65535 ↔ ns < mode.overNs 65535 p := by
  rw [← Nat.not_lt, lt_convertNs_iff mode rfl (prescale_pos hp), Nat.not_le]

/-- A prescale is chosen exactly for a period that fits at the largest. -/
theorem exists_choosePrescale_iff (mode : Rounding) (ns : Nat) :
    (∃ p, choosePrescale mode ns = some p) ↔ ns < mode.overNs 65535 128 := by
  rw [← Option.isSome_iff_exists, choosePrescale, List.find?_isSome]
  simp only [decide_eq_true_eq]
  constructor
  · rintro ⟨p, hp, hle⟩
    exact Nat.lt_of_lt_of_le ((convertNs_le_iff mode hp ns).1 hle)
      (mode.overNs_mono _ (prescale_le hp))
  · exact fun h => ⟨128, by decide, (convertNs_le_iff mode (by decide) ns).2 h⟩

/-- A period of 2 ticks or more at prescale 1 has 2 or more at the prescale chosen: a larger one is
chosen only above 65535 ticks at prescale 1. -/
theorem two_le_of_choosePrescale {mode : Rounding} {ns p : Nat} (h : choosePrescale mode ns = some p)
    (hmin : mode.overNs 1 1 ≤ ns) : 2 ≤ convertNs mode ns p := by
  obtain ⟨hp, _, hleast⟩ := (choosePrescale_eq_some_iff mode ns p).1 h
  have hpos := prescale_pos hp
  refine (lt_convertNs_iff mode rfl hpos ns).2 ?_
  rcases Nat.eq_or_lt_of_le hpos with rfl | hlarger
  · exact hmin
  · have hover := (lt_convertNs_iff mode rfl Nat.one_pos ns).1 (hleast 1 (by decide) hlarger)
    calc mode.overNs 1 p ≤ mode.overNs 1 128 := mode.overNs_mono 1 (prescale_le hp)
      _ ≤ mode.overNs 65535 1 := by cases mode <;> decide
      _ ≤ ns := hover

theorem convertNs_tick (mode : Rounding) {p : Nat} (hp : 0 < p) : convertNs mode (20 * p) p = 1 := by
  rw [convertNs_of_div (q := 1) (r := 0) (by omega) (by omega)]
  cases mode <;> simp [Rounding.carry, hp]

/-- The periods that some strobe is accepted with: 2 ticks or more at prescale 1, and 65535 or fewer at
prescale 128. A strobe of one prescaled tick does. -/
theorem exists_convertTiming_iff (mode : Rounding) (periodNs : Nat) :
    (∃ strobe t, convertTiming mode periodNs strobe = some t) ↔
      mode.overNs 1 1 ≤ periodNs ∧ periodNs < mode.overNs 65535 128 := by
  rw [← exists_choosePrescale_iff]
  constructor
  · rintro ⟨strobe, t, h⟩
    obtain ⟨p, hchoose, hperiod, -⟩ := (convertTiming_eq_some_iff ..).1 h
    obtain ⟨hp, -⟩ := (choosePrescale_eq_some_iff ..).1 hchoose
    have hpos := prescale_pos hp
    exact ⟨(mode.overNs_mono 1 hpos).trans ((lt_convertNs_iff mode rfl hpos _).1 hperiod),
      p, hchoose⟩
  · rintro ⟨hmin, p, hchoose⟩
    obtain ⟨hp, -⟩ := (choosePrescale_eq_some_iff ..).1 hchoose
    have hperiod := two_le_of_choosePrescale hchoose hmin
    have hstrobe := convertNs_tick mode (prescale_pos hp)
    exact ⟨20 * p, _, (convertTiming_eq_some_iff ..).2
      ⟨p, hchoose, hperiod, Nat.le_of_eq hstrobe.symm, hstrobe ▸ hperiod, rfl⟩⟩

/-! ## SET_TIMING and READ_TIMING (R41, R45, R46) -/

theorem rounding_none {b : Byte} (h : 3 ≤ b.toNat) : Rounding.ofByte? b = none :=
  List.getElem?_eq_none h

/-- SET_TIMING outside LOCKOUT: RANGE where a byte names no set or no mode, or a time is 0. -/
theorem setTiming_range {s : State} {set mode strict : Byte} {periodNs strobeNs : Nat}
    (hm : s.engine.mode ≠ .lockout)
    (h : 4 ≤ set.toNat ∨ 3 ≤ mode.toNat ∨ periodNs = 0 ∨ strobeNs = 0) :
    setTiming set periodNs strobeNs mode strict s = refuse .range s := by
  rw [setTiming, unlessLocked_of_ne hm]
  rcases h with h | h | h
  · rw [timingId_none h]
  · rw [rounding_none h]
    cases TimingId.ofByte? set <;> rfl
  · have hzero : (periodNs = 0 || strobeNs = 0) = true := by simpa using h
    cases TimingId.ofByte? set with
    | none => rfl
    | some i =>
      cases Rounding.ofByte? mode with
      | none => rfl
      | some m => exact if_pos hzero

section
variable {s : State} {set mode strict : Byte} {periodNs strobeNs : Nat} {i : TimingId} {m : Rounding}
  (hm : s.engine.mode ≠ .lockout) (hi : set.toNat = i.val) (hmode : Rounding.ofByte? mode = some m)
include hm hi hmode

/-- SET_TIMING past its field checks: RANGE where the times convert to no timing set. -/
theorem setTiming_unconverted (h : convertTiming m periodNs strobeNs = none) :
    setTiming set periodNs strobeNs mode strict s = refuse .range s := by
  rw [setTiming, unlessLocked_of_ne hm, timingId_some hi, hmode]
  simp only [h, ite_self]

/-- SET_TIMING past its field checks: the timing set is written, or refused INEXACT where it is and the
request is strict, with the same results (R45; log 21). -/
theorem setTiming_converted (hperiod : 1 ≤ periodNs) (hstrobe : 1 ≤ strobeNs) {t : TimingSet}
    (h : convertTiming m periodNs strobeNs = some t) :
    setTiming set periodNs strobeNs mode strict s =
      if t.inexact = true ∧ strict ≠ 0 then refuseWith .inexact t.results s
      else accept (s.withTiming { s.timing with sets := s.timing.sets.set i.val t }) t.results := by
  have hpos : ¬ (periodNs = 0 || strobeNs = 0) = true := fun hzero => by
    simp only [Bool.or_eq_true, decide_eq_true_eq] at hzero
    omega
  rw [setTiming, unlessLocked_of_ne hm, timingId_some hi, hmode]
  simp only [if_neg hpos, h, yes_eq, Bool.and_eq_true, decide_eq_true_eq]

end

/-- READ_TIMING outside LOCKOUT: every field of the set named (R46). -/
theorem readTiming_accept {s : State} {set : Byte} {i : TimingId} (hm : s.engine.mode ≠ .lockout)
    (hi : set.toNat = i.val) : readTiming set s = accept s s.timing.sets[i].allFields := by
  rw [readTiming, unlessLocked_of_ne hm, timingId_some hi]

theorem readTiming_range {s : State} {set : Byte} (hm : s.engine.mode ≠ .lockout)
    (h : 4 ≤ set.toNat) : readTiming set s = refuse .range s := by
  rw [readTiming, unlessLocked_of_ne hm, timingId_none h]

/-- Settles O26: the two requests by what `convertTiming` answers, the timing sets it answers by the
prescale chosen, and the accepted periods by the bounds at prescales 1 and 128. -/
theorem timingSetsAreConvertedWrittenAndRead :
    Obligations.TimingSetsAreConvertedWrittenAndRead := by
  unfold Obligations.TimingSetsAreConvertedWrittenAndRead
  refine ⟨⟨fun r s set p3 p2 p1 p0 q3 q2 q1 q0 mode strict hpayload hs hm => ?_,
    fun r s set hpayload hs hm => ?_⟩, fun mode periodNs strobeNs => ⟨fun t => ?_, ?_⟩⟩
  · have hbody : serveSetTiming (r.frame Kind.setTiming).payload s =
        setTiming set (num4 p3 p2 p1 p0) (num4 q3 q2 q1 q0) mode strict s := by
      rw [Req.frame, hpayload, serveSetTiming]
    refine ⟨fun h => exec_of_refuse rfl rfl rfl hs (hbody.trans (setTiming_range hm h)),
      fun i m hi hmode hperiod hstrobe => ⟨fun h => exec_of_refuse rfl rfl rfl hs
        (hbody.trans (setTiming_unconverted hm hi hmode h)), fun t h =>
          ⟨t.results, rfl, fun hinexact hstrict => ?_, fun hkept => ?_⟩⟩⟩
    · rw [setTiming_converted hm hi hmode hperiod hstrobe h, if_pos ⟨hinexact, hstrict⟩] at hbody
      rw [exec_serving rfl rfl rfl hs, hbody]
      rfl
    · have hnot : ¬ (t.inexact = true ∧ strict ≠ 0) := fun ⟨hinexact, hstrict⟩ =>
        hkept.elim (fun hexact => Bool.noConfusion (hexact.symm.trans hinexact)) hstrict
      rw [setTiming_converted hm hi hmode hperiod hstrobe h, if_neg hnot] at hbody
      exact exec_of_accept rfl rfl rfl hs hbody
  · have hbody : serveReadTiming (r.frame Kind.readTiming).payload s = readTiming set s := by
      rw [Req.frame, hpayload, serveReadTiming]
    refine ⟨fun h => exec_of_refuse rfl rfl rfl hs (hbody.trans (readTiming_range hm h)),
      fun i t hi ht => exec_of_accept rfl rfl rfl hs ?_⟩
    rw [hbody, readTiming_accept hm hi, ht]
    rfl
  · rw [convertTiming_eq_some_iff]
    constructor
    · rintro ⟨p, hchoose, hperiod, hstrobe, hlt, rfl⟩
      obtain ⟨hp, hmax, hleast⟩ := (choosePrescale_eq_some_iff ..).1 hchoose
      exact ⟨hp, hleast, rfl, hperiod, hmax, rfl, hstrobe, hlt, rfl, rfl, rfl⟩
    · obtain ⟨p, period, strobe, requestedPeriod, requestedStrobe, inexact⟩ := t
      dsimp only
      rintro ⟨hp, hleast, rfl, hperiod, hmax, rfl, hstrobe, hlt, rfl, rfl, rfl⟩
      exact ⟨p, (choosePrescale_eq_some_iff ..).2 ⟨hp, hmax, hleast⟩, hperiod, hstrobe, hlt, rfl⟩
  · rw [exists_convertTiming_iff]
    cases mode <;> simp only [Rounding.overNs] <;> omega

end Sys2Proof.Machine
end

section
/-! SUPPORT. The step start written out as one state (R85), and the events that stop a run: STOP, a
STOP edge and WAIT_TIMEOUT (R91, R93, R163). -/

namespace Sys2Proof.Machine

open Safety

/-! ## The step start (R85) -/

theorem stepStart_waits {s : State} {f : RunFrame} (hlive : s.engine.live = some f)
    (hwait : (s.store.vector f.pattern f.pos.index).wait = true)
    (hlatch : s.engine.releaseLatch = false) :
    stepStart s = enterWaiting (stageStep (s.store.vector f.pattern f.pos.index) s) := by
  simp only [stepStart, hlive, hwait, hlatch, Bool.not_false, Bool.and_self, if_true]

theorem stepStart_starts {s : State} {f : RunFrame} (hlive : s.engine.live = some f)
    (hgo : (s.store.vector f.pattern f.pos.index).wait = false ∨ s.engine.releaseLatch = true) :
    stepStart s = beginStep f (s.store.vector f.pattern f.pos.index)
      (consumeRelease (s.store.vector f.pattern f.pos.index)
        (stageStep (s.store.vector f.pattern f.pos.index) s)) := by
  have hnot : ((s.store.vector f.pattern f.pos.index).wait && !s.engine.releaseLatch) = false := by
    rcases hgo with h | h <;> simp [h]
  simp only [stepStart, hlive, hnot, Bool.false_eq_true, if_false]

theorem startWaitingStep_starts {s : State} {f : RunFrame} {v : VectorRec}
    (hlive : s.engine.live = some f) (hrecord : s.engine.stepRecord = some v) :
    startWaitingStep s = beginStep f v (consumeRelease v s) := by
  simp only [startWaitingStep, hlive, hrecord]

/-- What MARK carries with a live frame (R178). -/
theorem markPayload_of_live {s : State} {f : RunFrame} (hlive : s.engine.live = some f) :
    s.markPayload = bytesC s.engine.stepCounter ++ byte s.engine.stack.length ++ byte f.pattern.val
      ++ bytes2 f.pos.index ++ byte s.engine.baseSlot.val := by
  simp only [State.markPayload, Engine.place, hlive, Option.map_some, placeBytes, Engine.depth,
    List.append_assoc]

/-- A step that starts, block by block; the record's flag makes its MARK (R85 step 3). -/
theorem beginStep_eq {f : RunFrame} {s : State} (hlive : s.engine.live = some f) (v : VectorRec) :
    beginStep f v s =
      { s with
        output := s.output.latchedCopy
        timing := s.timing.stopWait.startPacer f.timing
        engine := { s.engine with mode := .running }
        link := if v.mark then
            s.link.notice .mark
              (bytesC s.engine.stepCounter ++ byte s.engine.stack.length ++ byte f.pattern.val
                ++ bytes2 f.pos.index ++ byte s.engine.baseSlot.val)
          else s.link } := by
  rw [← markPayload_of_live hlive, beginStep]
  cases v.mark <;> rfl

/-- The release latch stays where the record waits for none (R85 step 3). -/
theorem consumeRelease_eq (v : VectorRec) (s : State) :
    consumeRelease v s =
      s.withEngine { s.engine with releaseLatch := s.engine.releaseLatch && !v.wait } := by
  rw [consumeRelease]
  cases v.wait with
  | false =>
    rw [Bool.not_false, Bool.and_true]
    rfl
  | true =>
    rw [Bool.not_true, Bool.and_false]
    rfl

/-- Settles O31: the record is staged and kept, and the step waits or begins; a waiting step begins with
the record kept. -/
theorem stepStartStagesAndStartsOrWaits : Obligations.StepStartStagesAndStartsOrWaits := by
  unfold Obligations.StepStartStagesAndStartsOrWaits
  intro s f v hlive starts
  have hstarts (w u : State) (hw : w = u.withEngine { u.engine with stepRecord := some v })
      (hu : u.engine.live = some f) : beginStep f v (consumeRelease v w) = starts u := by
    have hkept : (consumeRelease v w).engine.live = some f := by
      rw [consumeRelease_eq, hw]
      exact hu
    rw [beginStep_eq hkept, consumeRelease_eq, hw]
    simp only [starts]
    cases v.mark <;> rfl
  refine ⟨?_, ?_, fun hrecord => ?_⟩
  · rintro rfl hwait hlatch
    rw [stepStart_waits hlive hwait hlatch]
    have htimer : (s.engine.options.waitTimeout != 0) = decide (s.engine.options.waitTimeout ≠ 0) := by
      rw [bne, beq_eq_decide, decide_not]
    rw [← htimer]
    rfl
  · rintro rfl hgo
    rw [stepStart_starts hlive hgo]
    exact hstarts _ _ rfl hlive
  · rw [startWaitingStep_starts hlive hrecord]
    exact hstarts s s (by rw [← hrecord]; rfl) hlive

/-! ## Edges (R161, R163) -/

/-- An edge's row takes the change of level and carries the edge's action out (R161). -/
theorem triggerRow_of_edge {s : State} {input : TrigInput} {action : TrigAction}
    (h : Edge s input action) (act : State → State) :
    triggerRow input action act s = act (s.levelChanged input) := by
  have hdelivers : (s.trigger.cfg input).delivers = action := by
    rw [TrigCfg.delivers, if_pos h.admitted, h.action]
  rw [triggerRow, State.delivery, if_pos h.operating, hdelivers, if_pos rfl]

/-! ## Stops (R93) -/

theorem stopped_of_armed {s : State} (h : s.engine.mode = .armed) (c : StopCause) :
    stopped c s = { s with engine := { s.engine with mode := .idle } } := if_pos h

theorem stopped_of_live {s : State} (h : s.engine.mode.isLive = true) (c : StopCause) :
    stopped c s = runEnd c s :=
  if_neg fun harmed => by simp [harmed, EngineState.isLive] at h

/-- STOP in ARMED and in a live run is accepted (R93). -/
theorem stop_accept {s : State} (h : s.engine.mode = .armed ∨ s.engine.mode.isLive = true) :
    stop s = accept (stopped .hostStop s) [] := by
  have hlock : s.engine.mode ≠ .lockout := fun e => by simp [e, EngineState.isLive] at h
  have hidle : s.engine.mode ≠ .idle := fun e => by simp [e, EngineState.isLive] at h
  rw [stop, unlessLocked_of_ne hlock, if_neg hidle]

theorem stopAction_taken {s : State} (h : s.engine.mode = .armed ∨ s.engine.mode.isLive = true) :
    stopAction s = stopped .triggerStop s :=
  if_pos (by simpa using h)

theorem stopAction_ignored {s : State} (h : s.engine.mode = .idle ∨ s.engine.mode = .lockout) :
    stopAction s = s := by
  refine if_neg ?_
  rcases h with h | h <;> simp [h, EngineState.isLive]

/-- Settles O34: the request and the edge by the engine state, the timeout by the wait timer. -/
theorem stopAndTimeoutEndTheRun : Obligations.StopAndTimeoutEndTheRun := by
  unfold Obligations.StopAndTimeoutEndTheRun
  refine ⟨fun r s hpayload hs => ?_, fun input s hedge => ?_, fun s => ⟨fun hm ht => ?_, fun h => ?_⟩⟩
  · have hbody : serveStop (r.frame Kind.stop).payload s = stop s := by
      rw [Req.frame, hpayload, serveStop]
    refine ⟨fun hm => exec_of_accept rfl rfl rfl hs ?_, fun hm => exec_of_accept rfl rfl rfl hs ?_⟩
    · rw [hbody, stop_accept (.inl hm), stopped_of_armed hm]
    · rw [hbody, stop_accept (.inr hm), stopped_of_live hm]
  · have hrow : exec (.stopTrigger input) s = .next (stopAction (s.levelChanged input)) :=
      congrArg Host.Outcome.next (triggerRow_of_edge hedge stopAction)
    have hengine : (s.levelChanged input).engine = s.engine := rfl
    rw [hrow, ← hengine]
    refine ⟨fun hm => ?_, fun hm => ?_, fun hm => ?_⟩
    · rw [stopAction_taken (.inl hm), stopped_of_armed hm]
    · rw [stopAction_taken (.inr hm), stopped_of_live hm]
    · rw [stopAction_ignored hm]
  · exact congrArg Host.Outcome.next (if_pos (by simp [hm, WaitTimer.expired_iff, ht]))
  · refine congrArg Host.Outcome.next (if_neg fun hdue => ?_)
    simp only [Bool.and_eq_true, decide_eq_true_eq, WaitTimer.expired_iff] at hdue
    exact h.elim (· hdue.1) (· hdue.2)

end Sys2Proof.Machine
end

section
/-! SUPPORT. The positions of a pass, by direction (R59), and how a move takes the run through them, the
slots and the context stack (R60, R81, R84, R110, R111). -/

namespace Sys2Proof.Machine

open Safety

/-! ## The positions of a pass (R59) -/

theorem passPositions_forward_getElem? (n i : Nat) :
    (passPositions .forward n)[i]? = if i < n then some ⟨i, .ascending⟩ else none := by
  rw [passPositions, List.getElem?_map]
  split
  next h => rw [List.getElem?_range h, Option.map_some]
  next h => rw [List.getElem?_eq_none (by simpa using h), Option.map_none]

theorem passPositions_reverse_getElem? (n i : Nat) :
    (passPositions .reverse n)[i]? = if i < n then some ⟨n - 1 - i, .descending⟩ else none := by
  rw [passPositions, List.getElem?_map]
  split
  next h =>
    rw [List.getElem?_reverse (by simpa using h), List.length_range,
      List.getElem?_range (by omega), Option.map_some]
  next h => rw [List.getElem?_eq_none (by simpa using h), Option.map_none]

/-- A PINGPONG pass up to the last vector is a forward pass, and then descends short of both ends. -/
theorem passPositions_pingpong_getElem? {n : Nat} (hn : 2 ≤ n) (i : Nat) :
    (passPositions .pingpong n)[i]? =
      if i < n then some ⟨i, .ascending⟩
      else if i < 2 * n - 2 then some ⟨2 * n - 2 - i, .descending⟩ else none := by
  rw [passPositions, List.getElem?_append, List.length_map, List.length_range]
  split
  next h => rw [List.getElem?_map, List.getElem?_range h, Option.map_some]
  next h =>
    have hlen : ((List.range (n - 1)).drop 1).length = n - 2 := by
      rw [List.length_drop, List.length_range, Nat.sub_sub]
    rw [List.getElem?_map]
    split
    next hi =>
      rw [List.getElem?_reverse (by omega), hlen, List.getElem?_drop,
        List.getElem?_range (by omega), Option.map_some]
      congr 2
      omega
    next hi => rw [List.getElem?_eq_none (by rw [List.length_reverse]; omega), Option.map_none]

/-- The first position of a pass is its entry 0. -/
theorem firstPosition_of_getElem? {d : Direction} {n : Nat} {p : Position}
    (h : (passPositions d n)[0]? = some p) : firstPosition d n = p := by
  rw [firstPosition, List.head?_eq_getElem?, h, Option.getD_some]

theorem firstPosition_eq {n : Nat} (hn : 1 ≤ n) :
    firstPosition .forward n = ⟨0, .ascending⟩ ∧
      firstPosition .reverse n = ⟨n - 1, .descending⟩ ∧
      firstPosition .pingpong n = ⟨0, .ascending⟩ := by
  have hpos : 0 < n := hn
  refine ⟨firstPosition_of_getElem? ?_, firstPosition_of_getElem? ?_, firstPosition_of_getElem? ?_⟩
  · rw [passPositions_forward_getElem?, if_pos hpos]
  · rw [passPositions_reverse_getElem?, if_pos hpos, Nat.sub_zero]
  · rcases Nat.lt_or_eq_of_le hn with h | rfl
    · rw [passPositions_pingpong_getElem? h, if_pos hpos]
    · rfl

/-- No pass visits a position twice: within a phase the indices differ. -/
theorem passPositions_nodup (d : Direction) (n : Nat) : (passPositions d n).Nodup := by
  have hphase (phase : Phase) : Function.Injective fun i : Nat => (⟨i, phase⟩ : Position) :=
    fun _ _ h => congrArg Position.index h
  have hup (m : Nat) : ((List.range m).map fun i => (⟨i, .ascending⟩ : Position)).Nodup :=
    List.nodup_range.map (hphase _)
  cases d with
  | forward => exact hup n
  | reverse => exact (List.nodup_reverse.2 List.nodup_range).map (hphase _)
  | pingpong =>
    refine List.Nodup.append (hup n) ?_ fun p hp hq => ?_
    · exact (List.nodup_reverse.2 (List.Pairwise.drop List.nodup_range)).map (hphase _)
    · obtain ⟨i, _, rfl⟩ := List.mem_map.1 hp
      obtain ⟨j, _, hj⟩ := List.mem_map.1 hq
      exact absurd (congrArg Position.phase hj) (by simp)

/-- In a list without duplicates, what is left from an entry's value on is what is left from its
place on. -/
theorem dropWhile_ne_eq_drop {α : Type} [DecidableEq α] {l : List α} (hl : l.Nodup) {i : Nat} {a : α}
    (h : l[i]? = some a) : l.dropWhile (· ≠ a) = l.drop i := by
  induction l generalizing i with
  | nil => simp at h
  | cons b l ih =>
    obtain ⟨hb, hl⟩ := List.nodup_cons.1 hl
    cases i with
    | zero =>
      obtain rfl : b = a := by simpa using h
      simp
    | succ i =>
      rw [List.getElem?_cons_succ] at h
      have hne : b ≠ a := fun e => hb (e ▸ List.mem_of_getElem? h)
      rw [List.dropWhile_cons_of_pos (by simpa using hne), ih hl h, List.drop_succ_cons]

theorem positionAfter_of_getElem? {d : Direction} {n i : Nat} {p : Position}
    (h : (passPositions d n)[i]? = some p) (k : Nat) :
    positionAfter d n p k = (passPositions d n)[i + k]? := by
  rw [positionAfter, restOfPass, dropWhile_ne_eq_drop (passPositions_nodup d n) h,
    List.getElem?_drop]

/-- A pass visits every vector of the pattern in each phase that its direction has; PINGPONG descends
past neither end. -/
theorem mem_passPositions (d : Direction) (n : Nat) (p : Position) :
    p ∈ passPositions d n ↔ p.index < n ∧ ¬ (d = .forward ∧ p.phase = .descending) ∧
      ¬ (d = .reverse ∧ p.phase = .ascending) ∧
      ¬ (d = .pingpong ∧ p.phase = .descending ∧ (p.index = 0 ∨ p.index = n - 1)) := by
  obtain ⟨i, phase⟩ := p
  cases d with
  | forward => cases phase <;> simp [passPositions]
  | reverse => cases phase <;> simp [passPositions]
  | pingpong =>
    cases phase with
    | ascending => simp [passPositions]
    | descending =>
      have hdrop : (List.range (n - 1)).drop 1 = List.range' 1 (n - 1 - 1) := by
        rw [List.range_eq_range', List.drop_range']
      simp only [passPositions, hdrop, List.mem_append, List.mem_map, List.mem_reverse,
        List.mem_range'_1, Position.mk.injEq, reduceCtorEq, and_false, exists_false, false_or,
        and_true, exists_eq_right, not_false_eq_true, true_and]
      omega

/-- Settles O29: each direction's list entry by entry; a position's place in it is the only one, and
what the list lacks is not suited. -/
theorem passesVisitPositionsInOrder : Obligations.PassesVisitPositionsInOrder := by
  unfold Obligations.PassesVisitPositionsInOrder
  refine ⟨passPositions_forward_getElem?, passPositions_reverse_getElem?,
    fun n i hn => passPositions_pingpong_getElem? hn i, rfl, fun n hn => firstPosition_eq hn,
    fun d n i k p h => positionAfter_of_getElem? h k, fun d n p => ?_⟩
  rw [Bool.eq_false_iff, Ne, suited_iff, mem_passPositions, ← not_or, ← not_or, not_and, not_not,
    ← Nat.not_lt, imp_iff_not_or]

/-! ## Moves (R81, R84, R110, R111) -/

/-- Where a slot's end brings the run (R60, R81 step 3). -/
theorem slotEnd_next {s : State} {b : BasePlace} (h : b.slot.val + 1 < 16)
    (hcount : b.slot.val + 1 < s.rotation.active.count) :
    s.slotEnd b = .frame (s.setupBase ⟨b.slot.val + 1, h⟩) [] := by
  rw [State.slotEnd, dif_pos h, if_pos hcount]

theorem slotEnd_wrap {s : State} {b : BasePlace}
    (h : s.rotation.active.count ≤ b.slot.val + 1 ∨ 16 ≤ b.slot.val + 1) :
    s.slotEnd b = .wrap := by
  rw [State.slotEnd]
  split
  · rw [if_neg (by omega)]
  · rfl

/-- A new pass of a BASE frame (R81 step 2). -/
theorem basePassEnd_newPass {s : State} {g : RunFrame} {b : BasePlace} (hb : g.base = some b)
    (h : 1 < b.passesLeft) :
    s.basePassEnd g b = .frame
      { g with
        pos := firstPosition s.rotation.active.slots[b.slot].direction
          (s.store.content g.pattern).length
        base := some ⟨b.slot, b.passesLeft - 1⟩ } [] := by
  rw [State.basePassEnd, if_pos h, State.directionOf, hb]
  rfl

theorem basePassEnd_slotEnd {s : State} {g : RunFrame} {b : BasePlace} (h : b.passesLeft ≤ 1) :
    s.basePassEnd g b = s.slotEnd b := if_neg (Nat.not_lt.2 h)

/-- The move within a pass (R81 step 1). -/
theorem moveOn_successor {s : State} {f : RunFrame} {p : Position}
    (h : positionAfter (s.directionOf f) (s.lengthOf f) f.pos 1 = some p) (stack : List SavedFrame) :
    s.moveOn f stack = .frame { f with pos := p } stack := by
  rw [State.moveOn, h]

theorem moveOn_passEnd {s : State} {f : RunFrame}
    (h : positionAfter (s.directionOf f) (s.lengthOf f) f.pos 1 = none) (stack : List SavedFrame) :
    s.moveOn f stack = s.passEnd f stack := by
  rw [State.moveOn, h]

theorem passEnd_base {s : State} {f : RunFrame} {b : BasePlace} (hb : f.base = some b)
    (stack : List SavedFrame) : s.passEnd f stack = s.basePassEnd f b := by
  rw [State.passEnd, hb]

theorem passEnd_splice {s : State} {f : RunFrame} (hb : f.base = none) (stack : List SavedFrame) :
    s.passEnd f stack = s.pop stack := by
  rw [State.passEnd, hb]

theorem advanceOn_base {s : State} {f : RunFrame} {b : BasePlace} (hb : f.base = some b)
    (stack : List SavedFrame) : s.advanceOn f stack = s.slotEnd b := by
  rw [State.advanceOn, hb]

theorem advanceOn_splice {s : State} {f : RunFrame} (hb : f.base = none)
    (stack : List SavedFrame) : s.advanceOn f stack = s.pop stack := by
  rw [State.advanceOn, hb]

/-- A pop within the pass of the frame beneath: moved on by its skip (R110). -/
theorem pop_landing {s : State} {g : SavedFrame} {p : Position}
    (h : positionAfter (s.directionOf g.frame) (s.lengthOf g.frame) g.frame.pos g.skip = some p)
    (rest : List SavedFrame) : s.pop (g :: rest) = .frame { g.frame with pos := p } rest := by
  rw [State.pop, h]

/-- A skip that ends the pass of the frame beneath is that frame's pass end (R111). -/
theorem pop_passEnd {s : State} {g : SavedFrame}
    (h : positionAfter (s.directionOf g.frame) (s.lengthOf g.frame) g.frame.pos g.skip = none)
    (rest : List SavedFrame) : s.pop (g :: rest) = s.passEnd g.frame rest := by
  rw [State.pop, h]
  rfl

/-- Settles O38: a pass end is a new pass or the slot's end for a BASE frame and a pop for a SPLICE
frame, whether the frame was live or is resumed; an advance is the slot's end or a pop. -/
theorem positionMovesThroughPasses : Obligations.PositionMovesThroughPasses := by
  unfold Obligations.PositionMovesThroughPasses
  intro s f stack next ended
  have hnext (b : BasePlace) : next b.slot.val (s.slotEnd b) :=
    ⟨fun h hcount => slotEnd_next h hcount, slotEnd_wrap⟩
  have hended (g : RunFrame) (b : BasePlace) (hb : g.base = some b) (under : List SavedFrame) :
      ended g b (s.passEnd g under) := by
    rw [passEnd_base hb]
    exact ⟨basePassEnd_newPass hb, fun h => basePassEnd_slotEnd h ▸ hnext b⟩
  refine ⟨fun p h => moveOn_successor h stack, fun h => ?_, fun b hb => ?_,
    fun hb => advanceOn_splice hb stack, fun g rest => ⟨fun p h => pop_landing h rest, fun h => ?_⟩⟩
  · rw [moveOn_passEnd h]
    exact ⟨fun b hb => hended f b hb stack, fun hb => passEnd_splice hb stack⟩
  · rw [advanceOn_base hb]
    exact hnext b
  · rw [pop_passEnd h]
    exact ⟨fun b hb => hended g.frame b hb rest, fun hb => passEnd_splice hb rest⟩

end Sys2Proof.Machine
end

section
/-! SUPPORT. The requests on the rotations: EDIT_SLOT, SET_SLOT_COUNT, COMMIT_ROTATION and
WITHDRAW_COMMIT (R61 to R66, R70); and the run start, by START and by an edge (R78, R79, R163). -/

namespace Sys2Proof.Machine

open Safety

/-! ## EDIT_SLOT (R61) -/

theorem slotIndex_none {b : Byte} (h : 15 < b.toNat) : SlotIndex.ofByte? b = none :=
  dif_neg (by omega)

theorem slotIndex_some {b : Byte} {i : SlotIndex} (h : b.toNat = i.val) :
    SlotIndex.ofByte? b = some i := by
  have hlt : b.toNat < 16 := h ▸ i.isLt
  rw [SlotIndex.ofByte?, dif_pos hlt]
  exact congrArg some (Fin.ext h)

theorem direction_none {b : Byte} (h : 2 < b.toNat) : Direction.ofByte? b = none :=
  List.getElem?_eq_none h

/-- A direction's code reads as the direction (R177). -/
theorem direction_some (d : Direction) : Direction.ofByte? d.code = some d := by
  cases d <;> rfl

theorem byte_eq_zero_iff (b : Byte) : b = 0 ↔ b.toNat = 0 := BitVec.toNat_eq

section
variable {s : State} {index pattern dwell direction timing : Byte}
  (hm : s.engine.mode ≠ .lockout)
include hm

/-- EDIT_SLOT finds the pending rotation locked while a swap waits (R67). -/
theorem editSlot_waiting (hw : s.rotation.swapWaiting = true) :
    editSlot index pattern dwell direction timing s = refuse .swapWaiting s := by
  rw [editSlot, unlessLocked_of_ne hm, if_pos hw]

/-- EDIT_SLOT: RANGE where a byte names no value or the dwell is 0. -/
theorem editSlot_range (hw : s.rotation.swapWaiting = false)
    (h : 15 < index.toNat ∨ 31 < pattern.toNat ∨ dwell.toNat = 0 ∨ 2 < direction.toNat ∨
      3 < timing.toNat) :
    editSlot index pattern dwell direction timing s = refuse .range s := by
  rw [editSlot, unlessLocked_of_ne hm, if_neg (by simp [hw])]
  split
  next hi hp hd ht =>
    refine if_pos ?_
    rcases h with h | h | h | h | h
    · simp [slotIndex_none h] at hi
    · simp [patternId_none h] at hp
    · exact (byte_eq_zero_iff dwell).2 h
    · simp [direction_none h] at hd
    · simp [timingId_none h] at ht
  · rfl

/-- EDIT_SLOT past its checks writes one record of the pending rotation. -/
theorem editSlot_accept (hw : s.rotation.swapWaiting = false) {i : SlotIndex} {p : PatternId}
    {d : Direction} {t : TimingId} (hi : index.toNat = i.val) (hp : pattern.toNat = p.val)
    (hdwell : 1 ≤ dwell.toNat) (hd : direction = d.code) (ht : timing.toNat = t.val) :
    editSlot index pattern dwell direction timing s =
      accept
        (s.withRotation
          { s.rotation with pendingRot :=
            { s.rotation.pendingRot with slots :=
              s.rotation.pendingRot.slots.set i.val ⟨p, dwell.toNat, d, t⟩ } }) [] := by
  have hpos : dwell ≠ 0 := fun h => by
    rw [byte_eq_zero_iff] at h
    omega
  rw [editSlot, unlessLocked_of_ne hm, if_neg (by simp [hw]), slotIndex_some hi, patternId_some hp,
    timingId_some ht, hd, direction_some]
  exact if_neg hpos

/-! ## SET_SLOT_COUNT (R62) -/

theorem setSlotCount_waiting {count : Byte} (hw : s.rotation.swapWaiting = true) :
    setSlotCount count s = refuse .swapWaiting s := by
  rw [setSlotCount, unlessLocked_of_ne hm, if_pos hw]

theorem setSlotCount_range {count : Byte} (hw : s.rotation.swapWaiting = false)
    (h : 16 < count.toNat) : setSlotCount count s = refuse .range s := by
  rw [setSlotCount, unlessLocked_of_ne hm, if_neg (by simp [hw]), if_pos h]

theorem setSlotCount_accept {count : Byte} (hw : s.rotation.swapWaiting = false)
    (h : count.toNat ≤ 16) :
    setSlotCount count s =
      accept
        (s.withRotation
          { s.rotation with pendingRot :=
            { s.rotation.pendingRot with count := count.toNat } }) [] := by
  rw [setSlotCount, unlessLocked_of_ne hm, if_neg (by simp [hw]), if_neg (Nat.not_lt.2 h)]

end

/-- Settles O27: the checks of the two requests one after another, and the record or the count that
they write. -/
theorem pendingRotationIsEdited : Obligations.PendingRotationIsEdited := by
  unfold Obligations.PendingRotationIsEdited
  refine ⟨fun r s index pattern dwell direction timing hpayload hs => ?_,
    fun r s count hpayload hs => ?_⟩
  · have hbody : serveEditSlot (r.frame Kind.editSlot).payload s =
        editSlot index pattern dwell direction timing s := by
      rw [Req.frame, hpayload, serveEditSlot]
    exact
      ⟨fun hm => exec_of_refuse rfl rfl rfl hs (hbody.trans (unlessLocked_lockout hm _)),
        fun hm hw => exec_of_refuse rfl rfl rfl hs (hbody.trans (editSlot_waiting hm hw)),
        fun hm hw h => exec_of_refuse rfl rfl rfl hs (hbody.trans (editSlot_range hm hw h)),
        fun _ _ _ _ hm hw hi hp hdwell hd ht => exec_of_accept rfl rfl rfl hs
          (hbody.trans (editSlot_accept hm hw hi hp hdwell hd ht))⟩
  · have hbody : serveSetSlotCount (r.frame Kind.setSlotCount).payload s = setSlotCount count s := by
      rw [Req.frame, hpayload, serveSetSlotCount]
    exact
      ⟨fun hm => exec_of_refuse rfl rfl rfl hs (hbody.trans (unlessLocked_lockout hm _)),
        fun hm hw => exec_of_refuse rfl rfl rfl hs (hbody.trans (setSlotCount_waiting hm hw)),
        fun hm hw h => exec_of_refuse rfl rfl rfl hs (hbody.trans (setSlotCount_range hm hw h)),
        fun hm hw h => exec_of_accept rfl rfl rfl hs (hbody.trans (setSlotCount_accept hm hw h))⟩

/-! ## COMMIT_ROTATION (R64, R65, R66) -/

/-- The lowest offending slot below the count. -/
theorem lowest?_eq_some {r : Rotation} {bad : Slot → Bool} {i : SlotIndex} (hi : i.val < r.count)
    (hbad : bad r.slots[i] = true) (hlow : ∀ j, j < i → bad r.slots[j] = false) :
    r.lowest? bad = some i := by
  rw [Rotation.lowest?, ← Fin.find?_eq_find?_finRange, Fin.find?_eq_some_iff]
  exact ⟨Bool.and_eq_true_iff.2 ⟨decide_eq_true hi, hbad⟩,
    fun j hj => Bool.and_eq_false_imp.2 fun _ => hlow j hj⟩

theorem lowest?_eq_none_of_forall {r : Rotation} {bad : Slot → Bool}
    (h : ∀ j : SlotIndex, j.val < r.count → bad r.slots[j] = false) : r.lowest? bad = none := by
  rw [Rotation.lowest?, ← Fin.find?_eq_find?_finRange, Fin.find?_eq_none_iff]
  exact fun j => Bool.and_eq_false_imp.2 fun hj => h j (of_decide_eq_true hj)

section
variable {s : State} (hm : s.engine.mode ≠ .lockout)
include hm

theorem commitRotation_waiting (hw : s.rotation.swapWaiting = true) :
    commitRotation s = refuse .swapWaiting s := by
  rw [commitRotation, unlessLocked_of_ne hm, if_pos hw]

variable (hw : s.rotation.swapWaiting = false)
include hw

theorem commitRotation_empty (h : s.rotation.pendingRot.count = 0) :
    commitRotation s = refuse .empty s := by
  rw [commitRotation, unlessLocked_of_ne hm, if_neg (by simp [hw]), if_pos h]

/-- COMMIT_ROTATION's third check: the lowest slot whose dwell is 0 (R64). -/
theorem commitRotation_dwell {i : SlotIndex} (hi : i.val < s.rotation.pendingRot.count)
    (hdwell : s.rotation.pendingRot.slots[i].dwell = 0)
    (hlow : ∀ j : SlotIndex, j < i → s.rotation.pendingRot.slots[j].dwell ≠ 0) :
    commitRotation s = refuseWith .range (byte i.val) s := by
  have hlowest : s.rotation.pendingRot.lowest? (fun x => x.dwell = 0) = some i :=
    lowest?_eq_some hi (by simpa using hdwell) (by simpa using hlow)
  rw [commitRotation, unlessLocked_of_ne hm, if_neg (by simp [hw]),
    if_neg (Nat.ne_of_gt (Nat.zero_lt_of_lt hi)), hlowest]

variable (hdwells : ∀ j : SlotIndex, j.val < s.rotation.pendingRot.count →
    s.rotation.pendingRot.slots[j].dwell ≠ 0)
include hdwells

/-- Its fourth check: the lowest slot whose pattern is undefined (R64). -/
theorem commitRotation_notDefined {i : SlotIndex} (hi : i.val < s.rotation.pendingRot.count)
    (hundef : s.store.content s.rotation.pendingRot.slots[i].pattern = .undefined)
    (hlow : ∀ j : SlotIndex, j < i →
      s.store.content s.rotation.pendingRot.slots[j].pattern ≠ .undefined) :
    commitRotation s = refuseWith .notDefined (byte i.val) s := by
  have hnone : s.rotation.pendingRot.lowest? (fun x => x.dwell = 0) = none :=
    lowest?_eq_none_of_forall (by simpa using hdwells)
  have hlowest : s.rotation.pendingRot.lowest?
      (fun x => !(s.store.content x.pattern).isDefined) = some i :=
    lowest?_eq_some hi (by rw [hundef]; rfl) fun j hj => by simpa [isDefined_iff] using hlow j hj
  rw [commitRotation, unlessLocked_of_ne hm, if_neg (by simp [hw]),
    if_neg (Nat.ne_of_gt (Nat.zero_lt_of_lt hi)), hnone, hlowest]

/-- Past its checks: the swap waits in a live rotation run, and is made at once otherwise (R65). -/
theorem commitRotation_accept (hcount : 0 < s.rotation.pendingRot.count)
    (hdefined : ∀ j : SlotIndex, j.val < s.rotation.pendingRot.count →
      s.store.content s.rotation.pendingRot.slots[j].pattern ≠ .undefined) :
    commitRotation s =
      if s.engine.rotationLive then
        accept (s.withRotation { s.rotation with swapWaiting := true })
          ([1] ++ bytesC s.rotation.version)
      else accept (swapNow .immediate s) ([0] ++ bytesC (s.rotation.version + 1)) := by
  have hnone : s.rotation.pendingRot.lowest? (fun x => x.dwell = 0) = none :=
    lowest?_eq_none_of_forall (by simpa using hdwells)
  have hdef : s.rotation.pendingRot.lowest?
      (fun x => !(s.store.content x.pattern).isDefined) = none :=
    lowest?_eq_none_of_forall fun j hj => by simpa [isDefined_iff] using hdefined j hj
  rw [commitRotation, unlessLocked_of_ne hm, if_neg (by simp [hw]), if_neg (Nat.ne_of_gt hcount),
    hnone, hdef]
  rfl

end

/-! ## WITHDRAW_COMMIT (R70) -/

theorem withdrawCommit_waiting {s : State} (hm : s.engine.mode ≠ .lockout)
    (hw : s.rotation.swapWaiting = true) :
    withdrawCommit s = accept (s.withRotation { s.rotation with swapWaiting := false }) [] := by
  rw [withdrawCommit, unlessLocked_of_ne hm, if_pos hw]

theorem withdrawCommit_notWaiting {s : State} (hm : s.engine.mode ≠ .lockout)
    (hw : s.rotation.swapWaiting = false) : withdrawCommit s = refuse .notWaiting s := by
  rw [withdrawCommit, unlessLocked_of_ne hm, if_neg (by simp [hw])]

/-- Settles O28: COMMIT_ROTATION's checks one after another, each with the lowest slot it finds, and
the swap in its two manners; WITHDRAW_COMMIT by the swap-waiting flag. -/
theorem commitSwapsOrWaitsAndIsWithdrawn : Obligations.CommitSwapsOrWaitsAndIsWithdrawn := by
  unfold Obligations.CommitSwapsOrWaitsAndIsWithdrawn
  refine ⟨?_, fun r s hpayload hs => ?_⟩
  · intro r s hpayload hs hm bad slot used undef
    have hbody : serveCommitRotation (r.frame Kind.commitRotation).payload s = commitRotation s := by
      rw [Req.frame, hpayload, serveCommitRotation]
    have hbad {st : Status} {results : List Byte}
        (h : commitRotation s = refuseWith st results s) : bad st results := by
      show exec _ s = _
      rw [exec_serving rfl rfl rfl hs, hbody, h]
      rfl
    refine ⟨fun hw => hbad (commitRotation_waiting hm hw),
      fun hw hempty => hbad (commitRotation_empty hm hw hempty),
      fun i hw hi hdwell hlow => hbad (commitRotation_dwell hm hw hi hdwell hlow),
      fun i hw hdwells hi hundef hlow =>
        hbad (commitRotation_notDefined hm hw hdwells hi hundef hlow),
      fun hw hcount hslots => ?_⟩
    have haccept := hbody.trans (commitRotation_accept hm hw (fun j hj => (hslots j hj).1) hcount
      fun j hj => (hslots j hj).2)
    exact ⟨fun hlive => exec_of_accept rfl rfl rfl hs (haccept.trans (if_pos hlive)),
      fun hlive => exec_of_accept rfl rfl rfl hs (haccept.trans (if_neg (by simp [hlive])))⟩
  · have hbody : serveWithdrawCommit (r.frame Kind.withdrawCommit).payload s = withdrawCommit s := by
      rw [Req.frame, hpayload, serveWithdrawCommit]
    exact
      ⟨fun hm => exec_of_refuse rfl rfl rfl hs (hbody.trans (unlessLocked_lockout hm _)),
        fun hm hw => exec_of_refuse rfl rfl rfl hs (hbody.trans (withdrawCommit_notWaiting hm hw)),
        fun hm hw => exec_of_accept rfl rfl rfl hs (hbody.trans (withdrawCommit_waiting hm hw))⟩

/-! ## The run start (R78, R79, R163) -/

/-- The checker's part of a run start, field by field (R79 steps 3, 6). -/
theorem checker_startRun_eq (c : Checker) (clear : Bool) :
    c.startRun clear =
      if clear then
        { c with
          failingSteps := 0
          firstFailNotified := false
          mismatchCounts := Vector.replicate 24 0
          failLog := []
          logOverflow := false }
      else { c with failingSteps := 0, firstFailNotified := false } := by
  cases clear <;> rfl

theorem start_accept {s : State} (hm : s.engine.mode = .armed) :
    start s = accept (startRun s) [] := by
  rw [start, unlessLocked_of_ne (by simp [hm]), if_pos hm]

/-- Settles O32: the request and the edge are one run start, whose changes are those of R79 block by
block. -/
theorem startBeginsARotationRun : Obligations.StartBeginsARotationRun := by
  unfold Obligations.StartBeginsARotationRun
  intro begun
  have hbegun (s : State) : startRun s = stepStart (begun s) := by
    rw [startRun, checker_startRun_eq]
    rfl
  refine ⟨fun r s hpayload hs hm => exec_of_accept rfl rfl rfl hs ?_, fun input s hedge => ?_⟩
  · rw [Req.frame, hpayload, serveStart, start_accept hm, hbegun]
  · have hrow : exec (.startTrigger input) s = .next (startAction (s.levelChanged input)) :=
      congrArg Host.Outcome.next (triggerRow_of_edge hedge startAction)
    have hengine : (s.levelChanged input).engine = s.engine := rfl
    rw [hrow, startAction, hengine]
    exact ⟨fun hm => by rw [if_pos hm, hbegun], fun hm => by rw [if_neg hm]⟩

end Sys2Proof.Machine
end

section
/-! SUPPORT. Numbers, codes and records as the link's bytes (R177, R178), and the requests that only
read: POSITION, READ_ROTATION, READ_NET_MAP and READ_CAPTURE (R63, R98, R156, R166). -/

namespace Sys2Proof.Machine

open Safety

/-! ## Numbers, most significant byte first (R177) -/

theorem byte_eq (n : Nat) : byte n = [BitVec.ofNat 8 n] := by
  simp [byte, bytesOf]

theorem bytes2_eq (n : Nat) : bytes2 n = [BitVec.ofNat 8 (n / 256), BitVec.ofNat 8 n] := by
  simp [bytes2, bytesOf]

theorem bytes4_eq (n : Nat) :
    bytes4 n = [BitVec.ofNat 8 (n / 16777216), BitVec.ofNat 8 (n / 65536),
      BitVec.ofNat 8 (n / 256), BitVec.ofNat 8 n] := by
  simp [bytes4, bytesOf]

theorem bytesL_eq (l : LaneSet) :
    bytesL l = [BitVec.ofNat 8 (l.toNat / 65536), BitVec.ofNat 8 (l.toNat / 256),
      BitVec.ofNat 8 l.toNat] := by
  simp [bytesL, bytesOf]

/-! ## Fields that may be absent (R177) -/

theorem phase_code_eq (p : Phase) : p.code = if p = .ascending then 0 else 1 := by
  cases p <;> rfl

/-- The held origin's byte, outside HELD and in it. -/
theorem originBytes_eq (m : EngineState) :
    m.originBytes =
      [match m with
        | .held o => o.code
        | _ => 0xFF] := by
  cases m <;> rfl

theorem placeBytes_eq (p : Option RunPlace) :
    placeBytes p =
      match p with
      | some p => byte p.pattern.val ++ bytes2 p.index ++ byte p.slot.val
      | none => [0xFF, 0xFF, 0xFF, 0xFF] := by
  cases p <;> rfl

theorem laneByte_eq (n : Option Lane) :
    laneByte n =
      [match n with
        | some n => BitVec.ofNat 8 n.val
        | none => (0xFF : Byte)] := by
  cases n with
  | none => rfl
  | some n => exact byte_eq n.val

theorem pendingSpliceBytes_eq (x : Option Splice) :
    pendingSpliceBytes x =
      match x with
      | some x => [1] ++ byte x.pattern.val ++ byte x.timing.val ++ byte x.skip
      | none => [0, 0xFF, 0xFF, 0xFF] := by
  cases x <;> rfl

/-! ## Records (R178) -/

/-- A frame record, by its kind. -/
theorem runFrame_bytes_eq (f : RunFrame) (skip : Nat) :
    f.bytes skip =
      match f.base with
      | some b => [0] ++ byte f.pattern.val ++ byte b.slot.val ++ bytes2 f.pos.index
        ++ [if f.pos.phase = .ascending then 0 else 1] ++ byte b.passesLeft ++ bytes2 skip
        ++ byte f.timing.val
      | none => [1] ++ byte f.pattern.val ++ [0xFF] ++ bytes2 f.pos.index
        ++ [if f.pos.phase = .ascending then 0 else 1] ++ [0xFF] ++ bytes2 skip
        ++ byte f.timing.val := by
  rw [RunFrame.bytes, phase_code_eq]
  cases f.base <;> rfl

/-- A trigger input's edge and action, the preset absent but for SPLICE. -/
theorem trigCfg_bytes_eq (c : TrigCfg) :
    c.bytes =
      [match c.edge with
        | .rising => (0 : Byte)
        | .falling => 1
        | .both => 2]
      ++ match c.action with
        | .none => [0, 0xFF, 0xFF, 0xFF]
        | .start => [1, 0xFF, 0xFF, 0xFF]
        | .stop => [2, 0xFF, 0xFF, 0xFF]
        | .release => [3, 0xFF, 0xFF, 0xFF]
        | .advance => [4, 0xFF, 0xFF, 0xFF]
        | .capture => [5, 0xFF, 0xFF, 0xFF]
        | .splice x => [6] ++ byte x.pattern.val ++ byte x.timing.val ++ byte x.skip := by
  rw [TrigCfg.bytes]
  cases c.edge <;> cases c.action <;> rfl

theorem captureRec_bytes_eq (c : CaptureRec) :
    c.bytes =
      [match c.source with
        | .trgA => (0 : Byte)
        | .trgB => 1
        | .request => 2]
      ++ [c.mode.code]
      ++ [match c.mode with
        | .held o => o.code
        | _ => 0xFF]
      ++ [c.runKind.code] ++ bytesC c.stepCounter ++ byte c.depth
      ++ (match c.place with
        | some p => byte p.pattern.val ++ bytes2 p.index ++ byte p.slot.val
        | none => [0xFF, 0xFF, 0xFF, 0xFF])
      ++ [match c.surveyLane with
        | some n => BitVec.ofNat 8 n.val
        | none => (0xFF : Byte)] := by
  rw [CaptureRec.bytes, originBytes_eq, placeBytes_eq, laneByte_eq]
  cases c.source <;> rfl

/-! ## The survey's first strobe (R178; log 18) -/

theorem firstCounter_of_absent {v : Survey} (h : ∀ n : Lane, v.netMap[n] = none) :
    v.firstCounter = 0xFFFFFFFF := by
  have hfind : (List.finRange 24).find? (fun n => v.netMap[n].isSome) = none := by
    rw [← Fin.find?_eq_find?_finRange, Fin.find?_eq_none_iff]
    exact fun n => by rw [h n]; rfl
  rw [Survey.firstCounter, hfind]

/-- The counter of the lowest present entry, less its participant's rank. -/
theorem firstCounter_of_lowest {v : Survey} {n : Lane} {e : NetEntry} (he : v.netMap[n] = some e)
    (hlow : ∀ m : Lane, m < n → v.netMap[m] = none) :
    v.firstCounter = e.stepCounter - BitVec.ofNat 32
      ((List.finRange 24).filter fun m => hasLane v.participants m && decide (m < n)).length := by
  have hfind : (List.finRange 24).find? (fun n => v.netMap[n].isSome) = some n := by
    rw [← Fin.find?_eq_find?_finRange, Fin.find?_eq_some_iff]
    exact ⟨by rw [he]; rfl, fun m hm => by rw [hlow m hm]; rfl⟩
  have hrank : v.rank n =
      ((List.finRange 24).filter fun m => hasLane v.participants m && decide (m < n)).length := by
    rw [Survey.rank, lanesOf, List.filter_filter]
    simp only [Bool.and_comm]
  rw [Survey.firstCounter, hfind]
  simp only [he, hrank, Option.map_some, Option.getD_some]

/-! ## POSITION (R98) -/

/-- The frames of the run as a counted list, base first, with whatever follows it. -/
theorem framesBytes_append (e : Engine) (rest : List Byte) :
    byte e.frames.length ++ (e.frames.flatMap (fun g => g.frame.bytes g.skip) ++ rest) =
      (match e.live with
      | some f => byte (e.stack.length + 1)
        ++ e.stack.reverse.flatMap (fun g => g.frame.bytes g.skip) ++ f.bytes 0
      | none => [0]) ++ rest := by
  cases h : e.live with
  | none => simp [frames_of_none h, byte_eq]
  | some f => simp [frames_of_live h]

theorem reportsWait_iff (m : EngineState) :
    m.reportsWait = true ↔ m = .waiting ∨ m = .held .waiting := by
  cases m with
  | held o => cases o <;> simp [EngineState.reportsWait]
  | _ => simp [EngineState.reportsWait]

theorem waitBytes_eq (s : State) :
    s.waitBytes =
      if s.engine.mode = .waiting ∨ s.engine.mode = .held .waiting then
        bytes2 ((s.timing.waitTimer.remaining + 49999) / 50000)
      else [0xFF, 0xFF] := by
  simp only [State.waitBytes, reportsWait_iff]
  rfl

/-! ## READ_ROTATION (R63) -/

theorem readRotation_range {s : State} {which : Byte} (h : 1 < which.toNat) :
    readRotation which s = refuse .range s := by
  have hnone : WhichRotation.ofByte? which = none := List.getElem?_eq_none h
  rw [readRotation, hnone]

theorem readRotation_accept {s : State} {which : Byte} {rot : Rotation}
    (h : (which = 0 ∧ rot = s.rotation.active) ∨ (which = 1 ∧ rot = s.rotation.pendingRot)) :
    readRotation which s =
      accept s (byte rot.count ++ (List.finRange 16).flatMap (fun i => rot.slots[i].bytes)
        ++ bytesC s.rotation.version ++ bytesB s.rotation.swapWaiting) := by
  rcases h with ⟨rfl, rfl⟩ | ⟨rfl, rfl⟩ <;> rfl

/-! ## READ_NET_MAP (R156) and READ_CAPTURE (R166) -/

theorem observedBytes_eq (e : Option NetEntry) :
    bytesL ((e.map NetEntry.observedSet).getD 0) =
      match e with
      | some e => bytesL e.observedSet
      | none => ([0, 0, 0] : List Byte) := by
  cases e <;> rfl

theorem expectedBytes_eq (e : Option LaneSet) :
    expectedBytes e =
      match e with
      | some l => bytesL l
      | none => ([0xFF, 0xFF, 0xFF] : List Byte) := by
  cases e <;> rfl

theorem captureBytes_eq (c : Option CaptureRec) :
    captureBytes c =
      match c with
      | some x => [1] ++ x.bytes
      | none => [0] ++ List.replicate 14 0xFF := by
  cases c <;> rfl

/-- Settles O54: the layouts one by one, and each request's results as the fields it reads. -/
theorem readingRepliesChangeNothing : Obligations.ReadingRepliesChangeNothing := by
  unfold Obligations.ReadingRepliesChangeNothing
  refine ⟨⟨fun n => ⟨byte_eq n, bytes2_eq n, bytes4_eq n⟩, fun _ => rfl, bytesL_eq, fun _ => rfl, rfl,
    rfl, rfl, rfl, rfl, runFrame_bytes_eq, captureRec_bytes_eq, trigCfg_bytes_eq,
    fun v => ⟨firstCounter_of_absent, fun n e he hlow => firstCounter_of_lowest he hlow⟩⟩,
    fun r s hpayload hs => ?_, fun r s which hpayload hs => ?_, fun r s hpayload hs => ?_, ?_⟩
  · refine exec_of_accept rfl rfl rfl hs ?_
    rw [Req.frame, hpayload, servePosition, State.positionRecord]
    simp only [List.append_assoc, framesBytes_append, originBytes_eq, pendingSpliceBytes_eq,
      waitBytes_eq]
    rfl
  · have hbody : serveReadRotation (r.frame Kind.readRotation).payload s = readRotation which s := by
      rw [Req.frame, hpayload, serveReadRotation]
    exact ⟨fun h => exec_of_refuse rfl rfl rfl hs (hbody.trans (readRotation_range h)),
      fun rot h => exec_of_accept rfl rfl rfl hs (hbody.trans (readRotation_accept h))⟩
  · refine exec_of_accept rfl rfl rfl hs ?_
    rw [Req.frame, hpayload, serveReadNetMap, Survey.mapRecord]
    simp only [laneByte_eq, observedBytes_eq, expectedBytes_eq]
    rfl
  · intro r s hpayload hs shown
    refine exec_of_accept rfl rfl rfl hs ?_
    rw [Req.frame, hpayload, serveReadCapture, Trigger.record, captureBytes_eq, captureBytes_eq]
    simp only [List.append_assoc]
    rfl

end Sys2Proof.Machine
end

section
/-! SUPPORT. The context stack's law and the waiting swap's, each on its own (R67, R80): what the
operations of a run keep of them, without the other laws. -/

namespace Sys2Proof.Machine

open Safety

/-! ## The law of the context stack (R80) -/

/-- The law of the context stack, of the engine alone. -/
def Engine.Stacked (e : Engine) : Prop :=
  FramesHeld e ∧ baseThenSplices e.frames = true ∧ ∀ n : SnapshotId, SnapshotFormed e.snapshots[n]

theorem stackLaw_iff (s : State) : StackLaw s ↔ s.engine.Stacked := Iff.rfl

/-- A live frame over its context stack: the bottom frame BASE, every other SPLICE. -/
def BaseBeneath (f : RunFrame) : List SavedFrame → Prop
  | [] => f.base.isSome = true
  | g :: rest => f.base = none ∧ BaseBeneath g.frame rest

/-- The frames read base first. -/
theorem baseBeneath_iff {f : RunFrame} {stack : List SavedFrame} :
    BaseBeneath f stack ↔ baseThenSplices (stack.reverse ++ [⟨f, 0⟩]) = true := by
  induction stack generalizing f with
  | nil => simp [BaseBeneath, baseThenSplices]
  | cons g rest ih =>
    have hskip : baseThenSplices (rest.reverse ++ [g]) = true ↔
        baseThenSplices (rest.reverse ++ [⟨g.frame, 0⟩]) = true := by
      simp only [baseThenSplices_append]
    rw [BaseBeneath, ih, List.reverse_cons, baseThenSplices_append (rest.reverse ++ [g]),
      if_neg (by simp), hskip, and_comm]

theorem baseBeneath_of_tower {s : State} {f : RunFrame} {stack : List SavedFrame}
    (h : Tower s f stack) : BaseBeneath f stack :=
  baseBeneath_iff.2 (tower_iff.1 h).1

/-- The live frame at another position. -/
theorem BaseBeneath.move {f : RunFrame} {stack : List SavedFrame} (h : BaseBeneath f stack)
    (p : Position) : BaseBeneath { f with pos := p } stack := by
  cases stack <;> exact h

/-- The saved frames and the pending splice, which will be one of them (R106). -/
def Engine.claimed (e : Engine) : Nat :=
  e.stack.length + (if e.pendingSplice.isSome then 1 else 0)

/-- An engine with a live rotation run: its frames, room for the pending splice, and the snapshots. -/
theorem stacked_of_rotationLive {e : Engine} {f : RunFrame} (hr : e.rotationLive = true)
    (hf : e.live = some f) (hbase : BaseBeneath f e.stack) (hroom : e.claimed ≤ 4)
    (hsnap : ∀ n : SnapshotId, SnapshotFormed e.snapshots[n]) : e.Stacked := by
  refine ⟨⟨fun hn => ?_, fun _ => ?_, hroom⟩, ?_, hsnap⟩
  · rw [hr] at hn
    cases hn
  · rw [hf]
    rfl
  · rw [frames_of_live hf]
    exact baseBeneath_iff.1 hbase

/-- An engine without one: no frames and no pending splice. -/
theorem stacked_of_not_rotationLive {e : Engine} (hr : e.rotationLive = false) (hf : e.live = none)
    (hstack : e.stack = []) (hsplice : e.pendingSplice = none)
    (hsnap : ∀ n : SnapshotId, SnapshotFormed e.snapshots[n]) : e.Stacked := by
  refine ⟨⟨fun _ => ⟨hf, hstack, hsplice⟩, fun hn => ?_, ?_⟩, ?_, hsnap⟩
  · rw [hr] at hn
    cases hn
  · simp [hstack, hsplice]
  · rw [frames_of_none hf]
    rfl

section
variable {e : Engine} (h : e.Stacked)
include h

theorem Engine.Stacked.snapshots (n : SnapshotId) : SnapshotFormed e.snapshots[n] := h.2.2 n

theorem Engine.Stacked.room : e.claimed ≤ 4 := h.1.2.2

/-- Outside a live rotation run there is no frame and no pending splice. -/
theorem Engine.Stacked.frameless (hr : e.rotationLive = false) :
    e.live = none ∧ e.stack = [] ∧ e.pendingSplice = none := h.1.1 hr

/-- A live frame is a live rotation run's, over a stack with BASE at its bottom. -/
theorem Engine.Stacked.of_live {f : RunFrame} (hf : e.live = some f) :
    e.rotationLive = true ∧ BaseBeneath f e.stack := by
  obtain ⟨⟨hnone, -, -⟩, hbase, -⟩ := h
  refine ⟨?_, ?_⟩
  · by_contra hn
    obtain ⟨hlive, -, -⟩ := hnone (by simpa using hn)
    rw [hlive] at hf
    cases hf
  · rw [frames_of_live hf] at hbase
    exact baseBeneath_iff.2 hbase

/-- A live rotation run has a live frame. -/
theorem Engine.Stacked.exists_live (hr : e.rotationLive = true) : ∃ f, e.live = some f :=
  Option.isSome_iff_exists.1 (h.1.2.1 hr)

end

/-- `f` has the frames of `e`, the same pending splice and snapshots, and a rotation run is live in
both or in neither. -/
structure SameStack (e f : Engine) : Prop where
  rotationLive : f.rotationLive = e.rotationLive
  live         : f.live = e.live
  stack        : f.stack = e.stack
  splice       : f.pendingSplice = e.pendingSplice
  snapshots    : f.snapshots = e.snapshots

theorem Engine.Stacked.congr {e f : Engine} (h : e.Stacked) (hs : SameStack e f) : f.Stacked := by
  have hframes : f.frames = e.frames := by rw [Engine.frames, hs.live, hs.stack, Engine.frames]
  obtain ⟨hheld, hbase, hsnap⟩ := h
  refine ⟨?_, hframes ▸ hbase, hs.snapshots ▸ hsnap⟩
  rw [FramesHeld, hs.rotationLive, hs.live, hs.stack, hs.splice]
  exact hheld

/-! ## The two laws together -/

/-- From `s` to `t` the law of the context stack and the law of the waiting swap are kept, each
on its own. -/
structure KeepsRun (s t : State) : Prop where
  stack : s.engine.Stacked → t.engine.Stacked
  swap  : SwapLaw s → SwapLaw t

theorem KeepsRun.refl (s : State) : KeepsRun s s := ⟨id, id⟩

theorem KeepsRun.trans {s t u : State} (h : KeepsRun s t) (k : KeepsRun t u) : KeepsRun s u :=
  ⟨k.stack ∘ h.stack, k.swap ∘ h.swap⟩

/-- What changes neither the frames nor the swap-waiting flag keeps them. -/
theorem KeepsRun.of_same {s t : State} (he : SameStack s.engine t.engine)
    (hw : t.rotation.swapWaiting = s.rotation.swapWaiting) : KeepsRun s t where
  stack h := h.congr he
  swap h ht := he.rotationLive.trans (h (hw ▸ ht))

theorem KeepsRun.of_eq {s t : State} (he : t.engine = s.engine)
    (hw : t.rotation.swapWaiting = s.rotation.swapWaiting) : KeepsRun s t :=
  .of_same (by rw [he]; constructor <;> rfl) hw

/-- After what leaves no swap waiting, the law of the swap holds of itself. -/
theorem KeepsRun.of_no_swap {s t : State} (he : s.engine.Stacked → t.engine.Stacked)
    (hw : t.rotation.swapWaiting = false) : KeepsRun s t :=
  ⟨he, fun _ ht => by rw [hw] at ht; cases ht⟩

/-- So it does in a live rotation run. -/
theorem KeepsRun.of_rotationLive {s t : State} (he : s.engine.Stacked → t.engine.Stacked)
    (hr : t.engine.rotationLive = true) : KeepsRun s t := ⟨he, fun _ _ => hr⟩

theorem rotationLive_of_kind {e : Engine} (hk : e.runKind = .rotation)
    (hm : e.mode.isLive = true) : e.rotationLive = true := by
  simp [Engine.rotationLive, hk, hm]

theorem kind_of_rotationLive {e : Engine} (h : e.rotationLive = true) : e.runKind = .rotation := by
  simp only [Engine.rotationLive, Bool.and_eq_true, beq_iff_eq] at h
  exact h.2

/-! ## The swap and the run end (R66, R94) -/

theorem swapIfWaiting_keepsRun (m : SwapManner) (s : State) : KeepsRun s (swapIfWaiting m s) :=
  .of_no_swap (fun h => by rwa [swapIfWaiting_engine]) (swapIfWaiting_swapWaiting m s)

theorem runEnd_keepsRun (c : StopCause) (s : State) : KeepsRun s (runEnd c s) := by
  have hrest := runEnd_resting c s
  refine .of_no_swap (fun h => ?_) hrest.swap
  refine stacked_of_not_rotationLive ?_ hrest.live hrest.stack hrest.splice ?_
  · rw [Engine.rotationLive, hrest.notLive, Bool.false_and]
  · rw [runEnd_snapshots]
    exact h.snapshots

theorem enterLockout_keepsRun (s : State) : KeepsRun s (enterLockout s) :=
  (runEnd_keepsRun .lockout s).trans (.of_eq rfl rfl)

/-! ## The step start (R85) -/

/-- A live run goes from one live engine state to another, its frames untouched. -/
theorem keepsRun_of_stepped {s t : State} {f : RunFrame} (hf : s.engine.live = some f)
    {m : EngineState} (hm : m.isLive = true) {v : Option VectorRec} {b : Bool}
    (he : t.engine = { s.engine with mode := m, stepRecord := v, releaseLatch := b })
    (hw : t.rotation = s.rotation) : KeepsRun s t := by
  have hlive (h : s.engine.rotationLive = true) : t.engine.rotationLive = true := by
    have hkind := kind_of_rotationLive h
    rw [he]
    exact rotationLive_of_kind hkind hm
  refine ⟨fun h => ?_, fun h ht => hlive (h (hw ▸ ht))⟩
  obtain ⟨hr, -⟩ := h.of_live hf
  refine h.congr ⟨(hlive hr).trans hr.symm, ?_, ?_, ?_, ?_⟩ <;> rw [he]

/-- A step that starts after its release is consumed. -/
theorem beginStep_consumeRelease_keepsRun {s : State} {f : RunFrame} (hf : s.engine.live = some f)
    (v : VectorRec) : KeepsRun s (beginStep f v (consumeRelease v s)) :=
  keepsRun_of_stepped hf (m := .running) rfl
    (by rw [beginStep_engine, consumeRelease_engine]) (by simp)

theorem stepStart_keepsRun (s : State) : KeepsRun s (stepStart s) := by
  cases hf : s.engine.live with
  | none =>
    rw [stepStart, hf]
    exact .refl s
  | some f =>
    obtain ⟨m, v, b, he⟩ := stepStart_engine s
    refine keepsRun_of_stepped hf ?_ he (stepStart_rotation s)
    have hm : (stepStart s).engine.mode = m := by rw [he]
    rcases stepStart_mode hf with h | h <;> rw [← hm, h] <;> rfl

theorem startWaitingStep_keepsRun (s : State) : KeepsRun s (startWaitingStep s) := by
  unfold startWaitingStep
  split
  next hf _ => exact beginStep_consumeRelease_keepsRun hf _
  · exact .refl s

/-! ## Moves (R81, R84, R110, R111) -/

/-- A move names frames with BASE at the bottom, `n` saved ones at most; the wrap names none. -/
def MoveBased (n : Nat) : Moved → Prop
  | .frame f stack => BaseBeneath f stack ∧ stack.length ≤ n
  | .wrap => True

theorem slotEnd_based (s : State) (b : BasePlace) (n : Nat) : MoveBased n (s.slotEnd b) := by
  unfold State.slotEnd
  split
  · split
    · exact ⟨rfl, Nat.zero_le n⟩
    · trivial
  · trivial

theorem basePassEnd_based (s : State) (f : RunFrame) (b : BasePlace) (n : Nat) :
    MoveBased n (s.basePassEnd f b) := by
  unfold State.basePassEnd
  split
  · exact ⟨rfl, Nat.zero_le n⟩
  · exact slotEnd_based s b n

theorem pop_based (s : State) {stack : List SavedFrame} {n : Nat} (hn : stack.length ≤ n)
    (h : ∀ g rest, stack = g :: rest → BaseBeneath g.frame rest) : MoveBased n (s.pop stack) := by
  induction stack with
  | nil => trivial
  | cons g rest ih =>
    have hg := h g rest rfl
    have hlen : rest.length ≤ n := Nat.le_of_succ_le hn
    rw [State.pop]
    split
    next p _ => exact ⟨hg.move p, hlen⟩
    · split
      · exact basePassEnd_based s _ _ n
      · refine ih hlen fun g' rest' hrest => ?_
        subst hrest
        exact hg.2

/-- The frames beneath the live one have BASE at their bottom too. -/
theorem BaseBeneath.beneath {f : RunFrame} {stack : List SavedFrame} (h : BaseBeneath f stack) :
    ∀ g rest, stack = g :: rest → BaseBeneath g.frame rest := by
  rintro g rest rfl
  exact h.2

theorem moveOn_based (s : State) {f : RunFrame} {stack : List SavedFrame}
    (h : BaseBeneath f stack) : MoveBased stack.length (s.moveOn f stack) := by
  unfold State.moveOn State.passEnd
  split
  next p _ => exact ⟨h.move p, Nat.le_refl _⟩
  · split
    · exact basePassEnd_based s _ _ _
    · exact pop_based s (Nat.le_refl _) h.beneath

theorem advanceOn_based (s : State) {f : RunFrame} {stack : List SavedFrame}
    (h : BaseBeneath f stack) : MoveBased stack.length (s.advanceOn f stack) := by
  unfold State.advanceOn
  split
  · exact slotEnd_based s _ _
  · exact pop_based s (Nat.le_refl _) h.beneath

/-! ## The wrap and the step end (R82, R87) -/

/-- Other frames for a live rotation run, no more of them than before. -/
theorem putFrames_stacked {s : State} (h : s.engine.Stacked) (hr : s.engine.rotationLive = true)
    {f : RunFrame} {stack : List SavedFrame} (hbase : BaseBeneath f stack)
    (hlen : stack.length ≤ s.engine.stack.length) : (s.putFrames f stack).engine.Stacked :=
  stacked_of_rotationLive (f := f) hr rfl hbase
    (Nat.le_trans (Nat.add_le_add_right hlen _) h.room) h.snapshots

theorem settle_keepsRun {s : State} {m : Moved} {f : RunFrame} (hf : s.engine.live = some f)
    (hm : s.engine.Stacked → MoveBased s.engine.stack.length m) : KeepsRun s (settle m s) := by
  cases m with
  | frame g stack =>
    refine ⟨fun h => ?_, id⟩
    obtain ⟨hbase, hlen⟩ := hm h
    exact putFrames_stacked h (h.of_live hf).1 hbase hlen
  | wrap =>
    have hswap := swapIfWaiting_keepsRun .wrap s
    unfold settle
    dsimp only
    split
    · exact hswap.trans (runEnd_keepsRun .complete _)
    · refine .of_no_swap (fun h => ?_) (swapIfWaiting_swapWaiting .wrap s)
      have hr : (swapIfWaiting .wrap s).engine.rotationLive = true := by
        rw [swapIfWaiting_engine]
        exact (h.of_live hf).1
      exact putFrames_stacked (hswap.stack h) hr rfl (Nat.zero_le _)

/-- Where a move leaves the run live, the pending splice still waits. -/
theorem settle_pendingSplice {s : State} {m : Moved}
    (hl : (settle m s).engine.mode.isLive = true) :
    (settle m s).engine.pendingSplice = s.engine.pendingSplice := by
  cases m with
  | frame g stack => rfl
  | wrap =>
    revert hl
    unfold settle
    dsimp only
    split
    · simp
    · intro _
      rw [State.putFrames, State.withEngine_engine, swapIfWaiting_engine]

theorem goOn_keepsRun (s : State) : KeepsRun s (goOn s) := by
  unfold goOn
  split
  · exact stepStart_keepsRun s
  · exact .refl s

/-- The frames after a push: the splice's frame over the frame that was live (R105). -/
theorem pushed_of_live {e : Engine} {f : RunFrame} (hf : e.live = some f) (x : Splice) :
    e.pushed x = { e with live := some x.frame, stack := ⟨f, x.skip⟩ :: e.stack } := by
  rw [Engine.pushed, hf]

/-- A splice pushed where there is room for its frame, in a live engine state. -/
theorem pushed_stacked {e t : Engine} (h : e.Stacked) {x : Splice} (hr : e.rotationLive = true)
    (hroom : e.stack.length + 1 ≤ 4) (ht : t.rotationLive = true)
    (hlive : t.live = (e.pushed x).live) (hstack : t.stack = (e.pushed x).stack)
    (hsplice : t.pendingSplice = none) (hsnap : t.snapshots = e.snapshots) : t.Stacked := by
  obtain ⟨f, hf⟩ := h.exists_live hr
  rw [pushed_of_live hf] at hlive hstack
  refine stacked_of_rotationLive ht hlive ?_ ?_ (hsnap ▸ h.snapshots)
  · rw [hstack]
    exact ⟨rfl, (h.of_live hf).2⟩
  · rw [Engine.claimed, hstack, hsplice]
    exact hroom

theorem takePending_keepsRun {x : Splice} {s : State}
    (hx : s.engine.mode.isLive = true → s.engine.pendingSplice = some x) :
    KeepsRun s (takePending x s) := by
  unfold takePending
  split
  next hl =>
    refine KeepsRun.trans (t := s.withEngine { s.engine.pushed x with pendingSplice := none }) ?_
      (stepStart_keepsRun _)
    have hkeeps := pushed_keeps s.engine x
    have hsame : ({ s.engine.pushed x with pendingSplice := none } : Engine).rotationLive =
        s.engine.rotationLive := by
      simp only [Engine.rotationLive, hkeeps.mode, hkeeps.kind]
    refine ⟨fun h => ?_, fun h ht => hsame.trans (h ht)⟩
    have hr : s.engine.rotationLive = true := by
      by_contra hn
      obtain ⟨-, -, hnone⟩ := h.frameless (by simpa using hn)
      rw [hx hl] at hnone
      cases hnone
    have hroom := h.room
    rw [Engine.claimed, hx hl] at hroom
    exact pushed_stacked h hr hroom (hsame.trans hr) rfl rfl rfl hkeeps.snapshots
  · exact .refl s

theorem countStep_keepsRun (s : State) : KeepsRun s (countStep s) :=
  .of_same (by constructor <;> rfl) rfl

theorem endMove_keepsRun {f : RunFrame} {s : State} (hf : s.engine.live = some f) :
    KeepsRun s (endMove f s) := by
  have hmove (h : s.engine.Stacked) :
      MoveBased s.engine.stack.length (s.moveOn f s.engine.stack) :=
    moveOn_based s (h.of_live hf).2
  unfold endMove
  split
  next x hx =>
    exact (settle_keepsRun hf hmove).trans
      (takePending_keepsRun fun hl => (settle_pendingSplice hl).trans hx)
  · split
    · have hclear : KeepsRun s (s.withEngine { s.engine with advanceLatch := false }) :=
        .of_same (by constructor <;> rfl) rfl
      refine (hclear.trans (settle_keepsRun hf fun h => ?_)).trans (goOn_keepsRun _)
      exact advanceOn_based s (h.of_live hf).2
    · exact (settle_keepsRun hf hmove).trans (goOn_keepsRun _)

theorem rotationStepEnd_keepsRun (s : State) : KeepsRun s (rotationStepEnd s) := by
  refine (countStep_keepsRun s).trans ?_
  unfold rotationStepEnd
  dsimp only
  split
  · exact runEnd_keepsRun _ _
  · split
    next hf => exact endMove_keepsRun hf
    · exact .refl _

/-! ## The run start and splices (R79, R104 to R108) -/

theorem rotationLive_of_not_live {e : Engine} (h : e.mode.isLive = false) :
    e.rotationLive = false := by
  rw [Engine.rotationLive, h, Bool.false_and]

theorem startRun_keepsRun {s : State} (hm : s.engine.mode = .armed) : KeepsRun s (startRun s) := by
  refine KeepsRun.trans (.of_rotationLive (fun h => ?_) ?_) (stepStart_keepsRun _)
  · obtain ⟨-, -, hsplice⟩ := h.frameless (rotationLive_of_not_live (by rw [hm]; rfl))
    refine stacked_of_rotationLive (f := s.setupBase 0) rfl rfl rfl ?_ h.snapshots
    simp [Engine.claimed, Engine.startRun, hsplice]
  · rfl

theorem pushedAtOnce_keepsRun {s : State} {x : Splice} (hx : SpliceFits s x) {m : EngineState}
    (hm : m.isLive = true) (r : Option VectorRec) : KeepsRun s (pushedAtOnce m r x s) := by
  have hkeeps := pushed_keeps s.engine x
  have hr : (pushedAtOnce m r x s).engine.rotationLive = true :=
    rotationLive_of_kind (hkeeps.kind.trans (kind_of_rotationLive hx.live)) hm
  exact .of_rotationLive (fun h => pushed_stacked h hx.live hx.room hr rfl rfl
    (hkeeps.splice.trans hx.free) hkeeps.snapshots) hr

theorem pendSplice_keepsRun {s : State} {x : Splice} (hx : SpliceFits s x) :
    KeepsRun s (pendSplice x s) := by
  refine .of_rotationLive (fun h => ?_) hx.live
  obtain ⟨f, hf⟩ := h.exists_live hx.live
  exact stacked_of_rotationLive hx.live hf (h.of_live hf).2 hx.room h.snapshots

theorem acceptSplice_keepsRun {s : State} {x : Splice} (hx : SpliceFits s x) :
    KeepsRun s (acceptSplice x s) := by
  unfold acceptSplice
  split
  · split
    · exact (pushedAtOnce_keepsRun hx (m := .running) rfl _).trans (stepStart_keepsRun _)
    · exact pushedAtOnce_keepsRun hx (m := .held .boundary) rfl none
  · exact pendSplice_keepsRun hx

/-! ## Engine states and latches (R83, R88, R89, R90, R93) -/

/-- Of the engine only what no frame depends on changes. -/
theorem withEngine_keepsRun {s : State} {e : Engine} (h : SameStack s.engine e) :
    KeepsRun s (s.withEngine e) := .of_same h rfl

/-- A live engine state for another, or one outside a run for another. -/
theorem setMode_keepsRun {s : State} {m : EngineState} (hm : m.isLive = s.engine.mode.isLive) :
    KeepsRun s (s.withEngine { s.engine with mode := m }) :=
  withEngine_keepsRun ⟨by simp only [Engine.rotationLive, hm], rfl, rfl, rfl, rfl⟩

theorem stopped_keepsRun (c : StopCause) (s : State) : KeepsRun s (stopped c s) := by
  unfold stopped
  split
  next hm => exact setMode_keepsRun (by rw [hm]; rfl)
  · exact runEnd_keepsRun c s

theorem released_keepsRun (s : State) : KeepsRun s (released s) := by
  unfold released
  split
  · exact startWaitingStep_keepsRun s
  · exact withEngine_keepsRun (by constructor <;> rfl)

theorem continueFrom_keepsRun {o : HeldOrigin} {s : State} (ho : s.engine.mode = .held o) :
    KeepsRun s (continueFrom o s) := by
  have hlive (m : EngineState) (hm : m.isLive = true) :
      KeepsRun s (s.withEngine { s.engine with mode := m }) :=
    setMode_keepsRun (by rw [hm, ho]; rfl)
  cases o with
  | running => exact hlive .running rfl
  | waiting =>
    unfold continueFrom
    dsimp only
    split
    · exact startWaitingStep_keepsRun s
    · exact hlive .waiting rfl
  | boundary => exact (hlive .running rfl).trans (stepStart_keepsRun _)

/-! ## The engine reset (R100) -/

theorem resetBlocks_keepsRun {s : State} (hl : s.engine.mode.isLive = false) :
    KeepsRun s (resetBlocks s) where
  stack h := stacked_of_not_rotationLive rfl rfl rfl rfl h.snapshots
  swap h ht := by
    have hr := h ht
    rw [rotationLive_of_not_live hl] at hr
    cases hr

theorem engineReset_keepsRun (s : State) : KeepsRun s (engineReset s) := by
  unfold engineReset
  split
  · exact (runEnd_keepsRun _ s).trans (resetBlocks_keepsRun (runEnd_isLive _ _))
  next hl => exact resetBlocks_keepsRun (by simpa using hl)

/-! ## Snapshots (R117, R122, R124, R125) -/

theorem putSnapshot_keepsRun {s : State} (n : SnapshotId) {x : Snapshot}
    (hx : s.engine.Stacked → SnapshotFormed x) : KeepsRun s (s.putSnapshot n x) := by
  refine ⟨fun h => ⟨h.1, h.2.1, fun m => ?_⟩, id⟩
  by_cases hnm : n = m
  · subst hnm
    simpa [State.putSnapshot] using hx h
  · have hval : n.val ≠ m.val := fun hv => hnm (Fin.ext hv)
    simpa [State.putSnapshot, Vector.getElem_set, hval] using h.snapshots m

/-- The frames of a run are in a snapshot's form when they have BASE at the bottom (R118, R121). -/
theorem snapFormOk_of_frames (s : State) {g : SavedFrame} {rest : List SavedFrame}
    (h : baseThenSplices (g :: rest) = true) (hlen : rest.length ≤ 4) :
    snapFormOk ((g :: rest).map s.snapFrame) = true := by
  obtain ⟨hg, hrest⟩ := Bool.and_eq_true_iff.1 h
  have hkinds : ∀ k ∈ rest, (s.snapFrame k).kind = .splice := fun k hk => by
    have hk := List.all_eq_true.1 hrest k hk
    rw [Option.isNone_iff_eq_none] at hk
    rw [State.snapFrame, hk]
    rfl
  have hkind : (s.snapFrame g).kind = .base := by rw [State.snapFrame, hg]; rfl
  simpa [snapFormOk, hkind, hlen] using hkinds

/-- What a suspend saves is formed (R118). -/
theorem savedRun_formed {s : State} (h : s.engine.Stacked) (hr : s.engine.rotationLive = true) :
    SnapshotFormed s.savedRun := by
  obtain ⟨f, hf⟩ := h.exists_live hr
  have hroom := h.room
  have hbase := h.2.1
  have hlen : s.engine.frames.length = s.engine.stack.length + 1 := by
    rw [frames_of_live hf]
    simp
  refine ⟨fun hempty => (by cases hempty), fun _ => ?_⟩
  show snapFormOk (s.engine.frames.map s.snapFrame) = true
  unfold Engine.claimed at hroom
  generalize s.engine.frames = frames at hbase hlen
  cases frames with
  | nil => cases hlen
  | cons g rest =>
    rw [List.length_cons] at hlen
    exact snapFormOk_of_frames s hbase (by omega)

/-- A resume that no check refuses restores a run with BASE at the bottom (R120 to R122). -/
theorem resumeRun_keepsRun {s : State} {n : SnapshotId}
    (hne : s.engine.snapshots[n].state ≠ .empty)
    (hr : s.resumeRefusal s.engine.snapshots[n] = none) :
    KeepsRun s (resumeRun n s.engine.snapshots[n] s) := by
  generalize hx : s.engine.snapshots[n] = x at hne hr
  refine KeepsRun.trans (t := (({ s with
      engine := s.engine.resume x
      checker := s.checker.resume x.failingSteps } : State).putSnapshot n Snapshot.none))
    (.of_rotationLive (fun h => ?_) rfl) (stepStart_keepsRun _)
  obtain ⟨l, y, hl⟩ := resumable_of_checks ((hx ▸ h.snapshots n).2 hne) hr
  have hlive : (s.engine.resume x).live = some y.runFrame := by simp [Engine.resume, hl.frames]
  have hstack : (s.engine.resume x).stack = (l.map SnapFrame.saved).reverse := by
    simp [Engine.resume, hl.frames]
  have hresumed : (s.engine.resume x).Stacked := by
    refine stacked_of_rotationLive rfl hlive (hstack ▸ baseBeneath_of_tower hl.tower) ?_ h.snapshots
    rw [Engine.claimed, hstack]
    simpa [Engine.resume] using hl.room
  exact (putSnapshot_keepsRun (s := { s with
    engine := s.engine.resume x
    checker := s.checker.resume x.failingSteps }) n fun _ => none_snapshot_lawful.1).stack hresumed

/-! ## The strobe and the survey (R129 to R137, R148 to R152) -/

theorem testStopOnFail_keepsRun (s : State) : KeepsRun s (testStopOnFail s) := by
  unfold testStopOnFail Engine.askFailLimit
  split
  · split
    · exact withEngine_keepsRun (by constructor <;> rfl)
    · exact withEngine_keepsRun (by constructor <;> rfl)
  · exact .refl s

theorem notifyFirstFail_keepsRun (r : FailRec) (s : State) : KeepsRun s (notifyFirstFail r s) := by
  unfold notifyFirstFail
  split
  · exact .refl s
  · exact .of_eq rfl rfl

theorem failingStep_keepsRun (m f obs : LaneSet) (s : State) :
    KeepsRun s (failingStep m f obs s) := by
  have hlog (r : FailRec) : KeepsRun s (logFailingStep r s) := .of_eq rfl rfl
  exact (hlog _).trans ((notifyFirstFail_keepsRun _ _).trans (testStopOnFail_keepsRun _))

/-- A lane quarantined sets the run's flag, and may ask for a stop (R135, R136). -/
theorem quarantineLane_keepsRun (obs : LaneSet) (s : State) (n : Lane) :
    KeepsRun s (quarantineLane obs s n) := by
  have hflags (e : Engine) (a : QuarantineAction) : SameStack e (e.quarantined a) := by
    cases a <;> constructor <;> rfl
  exact .of_same (hflags _ _) rfl

theorem quarantineAll_keepsRun (obs : LaneSet) (lanes : List Lane) (s : State) :
    KeepsRun s (quarantineAll obs lanes s) := by
  have hfold (s : State) : KeepsRun s (lanes.foldl (quarantineLane obs) s) := by
    induction lanes generalizing s with
    | nil => exact .refl s
    | cons n lanes ih => exact (quarantineLane_keepsRun obs s n).trans (ih _)
  simp only [quarantineAll]
  split
  · exact (hfold s).trans (enterLockout_keepsRun _)
  · exact hfold s

theorem judge_keepsRun (m f obs : LaneSet) (s : State) : KeepsRun s (judge m f obs s) := by
  have hcount : KeepsRun s (countStrobe m f s) :=
    .of_eq (by rw [countStrobe, State.withChecker_engine])
      (by rw [countStrobe, State.withChecker_rotation])
  simp only [judge]
  refine KeepsRun.trans ?_ (quarantineAll_keepsRun _ _ _)
  split
  · exact hcount
  · exact hcount.trans (failingStep_keepsRun _ _ _ _)

theorem writeEntry_keepsRun (a : Assembly) (s : State) : KeepsRun s (writeEntry a s) := by
  unfold writeEntry
  split
  · exact .of_eq rfl rfl
  · exact .refl s

theorem surveyComplete_keepsRun (s : State) : KeepsRun s (surveyComplete s) := by
  unfold surveyComplete compareMaps
  rw [foldl_handRecord]
  dsimp only
  refine KeepsRun.trans ?_ (runEnd_keepsRun .complete _)
  exact .of_same (by constructor <;> rfl) rfl

theorem surveyStepEnd_keepsRun (s : State) : KeepsRun s (surveyStepEnd s) := by
  refine (countStep_keepsRun s).trans ?_
  unfold surveyStepEnd
  dsimp only
  split
  · exact runEnd_keepsRun _ _
  · split
    · exact .of_eq rfl rfl
    · exact surveyComplete_keepsRun _

/-- A survey starts where no run is live, and is no rotation run (R149). -/
theorem startSurvey_keepsRun {s : State} (hm : s.engine.mode = .idle) (l : LaneSet) (t : TimingId)
    (n : Lane) : KeepsRun s (startSurvey l t n s) := by
  have hr : s.engine.rotationLive = false := rotationLive_of_not_live (by rw [hm]; rfl)
  exact .of_same ⟨hr.symm, rfl, rfl, rfl, rfl⟩ rfl

end Sys2Proof.Machine
end

section
/-! SUPPORT. Every row keeps the law of the context stack and the law of the waiting swap, and so does
every step (R67, R80). -/

namespace Sys2Proof.Machine

open Safety

/-! ## One block replaced -/

theorem withLink_keepsRun (s : State) (l : Link) : KeepsRun s (s.withLink l) := .of_eq rfl rfl

theorem withOutput_keepsRun (s : State) (o : Output) : KeepsRun s (s.withOutput o) := .of_eq rfl rfl

theorem withChecker_keepsRun (s : State) (c : Checker) : KeepsRun s (s.withChecker c) :=
  .of_eq rfl rfl

theorem withSurvey_keepsRun (s : State) (v : Survey) : KeepsRun s (s.withSurvey v) := .of_eq rfl rfl

theorem withTrigger_keepsRun (s : State) (t : Trigger) : KeepsRun s (s.withTrigger t) :=
  .of_eq rfl rfl

/-! ## Checks -/

/-- The check of LOCKOUT keeps what the request behind it keeps. -/
theorem unlessLocked_keepsRun {s : State} {k : Served} (h : KeepsRun s k.1) :
    KeepsRun s (unlessLocked s k).1 := by
  unfold unlessLocked
  split
  · exact .refl s
  · exact h

/-- So does a check that refuses. -/
theorem guard_keepsRun {c : Prop} [Decidable c] {s : State} {st : Status} {k : Served}
    (h : ¬ c → KeepsRun s k.1) : KeepsRun s (if c then refuse st s else k).1 := by
  split
  · exact .refl s
  next hc => exact h hc

/-! ## The rotations (R65, R70) -/

theorem serveCommitRotation_keepsRun (p : List Byte) (s : State) :
    KeepsRun s (serveCommitRotation p s).1 := by
  unfold serveCommitRotation commitRotation
  split
  · refine unlessLocked_keepsRun (guard_keepsRun fun _ => guard_keepsRun fun _ => ?_)
    split
    · exact .refl s
    split
    · exact .refl s
    split
    next hlive => exact .of_rotationLive id hlive
    · exact .of_no_swap id rfl
  · exact .refl s

theorem serveWithdrawCommit_keepsRun (p : List Byte) (s : State) :
    KeepsRun s (serveWithdrawCommit p s).1 := by
  unfold serveWithdrawCommit withdrawCommit
  split
  · refine unlessLocked_keepsRun ?_
    split
    · exact .of_no_swap id rfl
    · exact .refl s
  · exact .refl s

/-! ## The run engine (R76 to R90, R93, R100, R103) -/

theorem serveResetEngine_keepsRun (p : List Byte) (s : State) :
    KeepsRun s (serveResetEngine p s).1 := by
  unfold serveResetEngine
  split
  · exact engineReset_keepsRun s
  · exact .refl s

theorem serveArm_keepsRun (p : List Byte) (s : State) : KeepsRun s (serveArm p s).1 := by
  unfold serveArm arm
  split
  · refine unlessLocked_keepsRun (guard_keepsRun fun hl => ?_)
    split
    · exact .refl s
    · have hr : s.engine.rotationLive = false := rotationLive_of_not_live (by simpa using hl)
      exact guard_keepsRun fun _ => withEngine_keepsRun ⟨hr.symm, rfl, rfl, rfl, rfl⟩
  · exact .refl s

theorem serveDisarm_keepsRun (p : List Byte) (s : State) : KeepsRun s (serveDisarm p s).1 := by
  unfold serveDisarm disarm
  split
  · refine unlessLocked_keepsRun ?_
    split
    next hm => exact setMode_keepsRun (by rw [hm]; rfl)
    · exact .refl s
  · exact .refl s

theorem serveStart_keepsRun (p : List Byte) (s : State) : KeepsRun s (serveStart p s).1 := by
  unfold serveStart start
  split
  · refine unlessLocked_keepsRun ?_
    split
    next hm => exact startRun_keepsRun hm
    · exact .refl s
  · exact .refl s

theorem serveStop_keepsRun (p : List Byte) (s : State) : KeepsRun s (serveStop p s).1 := by
  unfold serveStop stop
  split
  · exact unlessLocked_keepsRun (guard_keepsRun fun _ => stopped_keepsRun _ s)
  · exact .refl s

theorem serveHold_keepsRun (p : List Byte) (s : State) : KeepsRun s (serveHold p s).1 := by
  unfold serveHold hold
  split
  · refine unlessLocked_keepsRun ?_
    split
    next hm => exact setMode_keepsRun (by rw [hm]; rfl)
    split
    next hm => exact setMode_keepsRun (by rw [hm]; rfl)
    · exact .refl s
  · exact .refl s

/-- The held origin is that of HELD (R73). -/
theorem held_of_origin? {m : EngineState} {o : HeldOrigin} (h : m.origin? = some o) :
    m = .held o := by
  cases m <;> cases h
  rfl

theorem serveContinueRun_keepsRun (p : List Byte) (s : State) :
    KeepsRun s (serveContinueRun p s).1 := by
  unfold serveContinueRun continueRun
  split
  · refine unlessLocked_keepsRun ?_
    split
    next ho => exact continueFrom_keepsRun (held_of_origin? ho)
    · exact .refl s
  · exact .refl s

theorem serveRelease_keepsRun (p : List Byte) (s : State) : KeepsRun s (serveRelease p s).1 := by
  unfold serveRelease release
  split
  · refine unlessLocked_keepsRun ?_
    split
    · exact released_keepsRun s
    · exact .refl s
  · exact .refl s

theorem latchAdvance_keepsRun (s : State) : KeepsRun s (latchAdvance s) :=
  withEngine_keepsRun (by constructor <;> rfl)

theorem serveAdvance_keepsRun (p : List Byte) (s : State) : KeepsRun s (serveAdvance p s).1 := by
  unfold serveAdvance advance
  split
  · refine unlessLocked_keepsRun ?_
    split
    · exact latchAdvance_keepsRun s
    · exact .refl s
  · exact .refl s

theorem serveSplice_keepsRun (p : List Byte) (s : State) : KeepsRun s (serveSplice p s).1 := by
  unfold serveSplice splice
  split
  · split
    · exact .refl s
    next hgate =>
      split
      · dsimp only
        split
        · exact .refl s
        next hroom => exact acceptSplice_keepsRun (spliceFits_of_checks hgate hroom)
      · exact .refl s
  · exact .refl s

/-! ## Snapshots (R117 to R125) and the survey (R148) -/

theorem serveSuspend_keepsRun (p : List Byte) (s : State) : KeepsRun s (serveSuspend p s).1 := by
  unfold serveSuspend suspend
  split
  · refine unlessLocked_keepsRun (guard_keepsRun fun hlive => ?_)
    split
    · exact .refl s
    · refine guard_keepsRun fun _ => ?_
      exact (putSnapshot_keepsRun _ fun h => savedRun_formed h (by simpa using hlive)).trans
        (runEnd_keepsRun .suspended _)
  · exact .refl s

theorem serveResume_keepsRun (p : List Byte) (s : State) : KeepsRun s (serveResume p s).1 := by
  unfold serveResume resume
  split
  · refine unlessLocked_keepsRun (guard_keepsRun fun _ => ?_)
    split
    · exact .refl s
    refine guard_keepsRun fun hne => ?_
    split
    · exact .refl s
    next hr => exact resumeRun_keepsRun hne hr
  · exact .refl s

theorem serveLoadSnapshot_keepsRun (p : List Byte) (s : State) :
    KeepsRun s (serveLoadSnapshot p s).1 := by
  unfold serveLoadSnapshot loadSnapshot
  dsimp only
  split
  · refine unlessLocked_keepsRun ?_
    split
    · exact .refl s
    split
    · exact .refl s
    next hx => exact guard_keepsRun fun _ => putSnapshot_keepsRun _ fun _ => (ofRecord_sound hx).formed
  · exact .refl s

theorem serveDiscardSnapshot_keepsRun (p : List Byte) (s : State) :
    KeepsRun s (serveDiscardSnapshot p s).1 := by
  unfold serveDiscardSnapshot discardSnapshot
  split
  · refine unlessLocked_keepsRun ?_
    split
    · exact .refl s
    · exact putSnapshot_keepsRun _ fun _ => none_sound.formed
  · exact .refl s

theorem serveSurvey_keepsRun (p : List Byte) (s : State) : KeepsRun s (serveSurvey p s).1 := by
  unfold serveSurvey survey
  split
  · refine unlessLocked_keepsRun (guard_keepsRun fun hm => ?_)
    split
    · exact .refl s
    split
    · exact startSurvey_keepsRun (by simpa using hm) _ _ _
    · exact .refl s
  · exact .refl s

/-! ## Requests that write the lanes, the lane counts or the reference map -/

theorem serveStageStatic_keepsRun (p : List Byte) (s : State) :
    KeepsRun s (serveStageStatic p s).1 := by
  unfold serveStageStatic stageStatic
  split
  · exact unlessLocked_keepsRun (guard_keepsRun fun _ => withOutput_keepsRun s _)
  · exact .refl s

theorem serveApplyStatic_keepsRun (p : List Byte) (s : State) :
    KeepsRun s (serveApplyStatic p s).1 := by
  unfold serveApplyStatic applyStatic
  split
  · exact unlessLocked_keepsRun (guard_keepsRun fun _ => withOutput_keepsRun s _)
  · exact .refl s

theorem serveClearLane_keepsRun (p : List Byte) (s : State) :
    KeepsRun s (serveClearLane p s).1 := by
  unfold serveClearLane clearLane
  split
  · exact unlessLocked_keepsRun (guard_keepsRun fun _ => withChecker_keepsRun s _)
  · exact .refl s

theorem serveLoadReference_keepsRun (p : List Byte) (s : State) :
    KeepsRun s (serveLoadReference p s).1 := by
  unfold serveLoadReference loadReference
  split
  · refine unlessLocked_keepsRun (guard_keepsRun fun _ => ?_)
    split
    · exact .refl s
    · exact withSurvey_keepsRun s _
  · exact .refl s

theorem serveAdoptReference_keepsRun (p : List Byte) (s : State) :
    KeepsRun s (serveAdoptReference p s).1 := by
  unfold serveAdoptReference adoptReference
  split
  · exact unlessLocked_keepsRun (guard_keepsRun fun _ => guard_keepsRun fun _ =>
      withSurvey_keepsRun s _)
  · exact .refl s

/-! ## Every request -/

/-- Every request's body keeps the two laws: those above by their own lemmas, and the others because
no branch of theirs touches the engine or the swap-waiting flag. -/
theorem body_keepsRun {i : Instr} {body : List Byte → State → Served} (hb : bodyOf i = some body)
    (p : List Byte) (s : State) : KeepsRun s (body p s).1 := by
  cases i <;> cases hb
  case commitRotation => exact serveCommitRotation_keepsRun p s
  case withdrawCommit => exact serveWithdrawCommit_keepsRun p s
  case resetEngine => exact serveResetEngine_keepsRun p s
  case arm => exact serveArm_keepsRun p s
  case disarm => exact serveDisarm_keepsRun p s
  case start => exact serveStart_keepsRun p s
  case stop => exact serveStop_keepsRun p s
  case hold => exact serveHold_keepsRun p s
  case continueRun => exact serveContinueRun_keepsRun p s
  case release => exact serveRelease_keepsRun p s
  case advance => exact serveAdvance_keepsRun p s
  case splice => exact serveSplice_keepsRun p s
  case suspend => exact serveSuspend_keepsRun p s
  case resume => exact serveResume_keepsRun p s
  case loadSnapshot => exact serveLoadSnapshot_keepsRun p s
  case discardSnapshot => exact serveDiscardSnapshot_keepsRun p s
  case survey => exact serveSurvey_keepsRun p s
  case stageStatic => exact serveStageStatic_keepsRun p s
  case applyStatic => exact serveApplyStatic_keepsRun p s
  case clearLane => exact serveClearLane_keepsRun p s
  case loadReference => exact serveLoadReference_keepsRun p s
  case adoptReference => exact serveAdoptReference_keepsRun p s
  all_goals
    simp only [serveStatus, servePosition, serveNoticeMask, serveSetBank, serveSetIdlePolicy,
      serveReadLanes, serveDefinePattern, serveDefineGenerator, serveWriteVectors, serveReadVectors,
      serveDeletePattern, serveListPatterns, serveSetTiming, serveReadTiming, serveEditSlot,
      serveSetSlotCount, serveReadRotation, serveReadSnapshot, serveSetCheck, serveReadFails,
      serveReadCounts, serveReadNetMap, serveClearReference, serveSetTrigger, serveCapture,
      serveReadCapture, status, noticeMask, setBank, setIdlePolicy, readLanes, definePattern,
      defineGenerator, writeVectors, readVectors, deletePattern, listPatterns, setTiming, readTiming,
      editSlot, setSlotCount, readRotation, readSnapshot, setCheck, readFails, readCounts,
      clearReference, setTrigger, setSpliceTrigger, writeTrigger, capture, unlessLocked]
    repeat' split
    all_goals exact .of_eq rfl rfl

/-! ## Every row -/

/-- A request row keeps what its work keeps. -/
theorem serveFrame_keepsRun {work : State → State} (h : ∀ t, KeepsRun t (work t)) (f : LinkFrame)
    (s : State) : KeepsRun s (serveFrame f work s) := by
  rcases serveFrame_cases s f work with e | e | ⟨e, -⟩ <;> rw [e]
  · exact .refl s
  · exact withLink_keepsRun s _
  · refine KeepsRun.trans ?_ (h _)
    exact .of_eq (State.submit_engine s f) (by rw [State.submit_rotation])

/-- A request answered at once keeps what its body keeps. -/
theorem serveRequest_keepsRun {body : List Byte → State → Served}
    (h : ∀ p t, KeepsRun t (body p t).1) (f : LinkFrame) (s : State) :
    KeepsRun s (serveRequest f body s) :=
  serveFrame_keepsRun (fun t => (h f.payload t).trans (withLink_keepsRun _ _)) f s

theorem packStore_keepsRun (f : LinkFrame) (s : State) : KeepsRun s (packStore f s) := by
  unfold packStore
  repeat' split
  all_goals exact .of_eq rfl rfl

theorem fullReset_keepsRun (straps : BitVec 2) (s : State) : KeepsRun s (fullReset straps s) :=
  ⟨fun _ => lawfulAtReset.stack, fun _ => lawfulAtReset.swap⟩

/-- An event that occurs or leaves the state as it is keeps what its occurrence keeps. -/
theorem ite_keepsRun {c : Prop} [Decidable c] {s t : State} (h : c → KeepsRun s t) :
    KeepsRun s (if c then t else s) := by
  split
  next hc => exact h hc
  · exact .refl s

/-- A trigger row keeps what its action keeps. -/
theorem triggerRow_keepsRun {act : State → State} (h : ∀ t, KeepsRun t (act t))
    (input : TrigInput) (action : TrigAction) (s : State) :
    KeepsRun s (triggerRow input action act s) :=
  ite_keepsRun fun _ => (withTrigger_keepsRun s _).trans (h _)

theorem captureAction_keepsRun (input : TrigInput) (s : State) :
    KeepsRun s (captureAction input s) := ite_keepsRun fun _ => .of_eq rfl rfl

theorem spliceAction_keepsRun (input : TrigInput) (x : Splice) (s : State) :
    KeepsRun s (spliceAction input x s) := by
  unfold spliceAction State.spliceRefusal
  split
  · exact withLink_keepsRun s _
  next hnone =>
    split at hnone
    · cases hnone
    next hgate => exact acceptSplice_keepsRun (spliceFits_of_checks hgate hnone)

/-- A row's outcome keeps what the state in it keeps. -/
theorem next_keepsRun {s t u : State} (h : KeepsRun s u)
    (e : (Host.Outcome.next u : Host.Outcome State Fault Refusal) = .next t) : KeepsRun s t :=
  Host.Outcome.next.inj e ▸ h

/-- Every row answered at once keeps the two laws: by its body where its kind is well-formed, and by
not occurring otherwise. -/
theorem request_keepsRun {i : Instr} {body : List Byte → State → Served} {s t : State}
    (hb : bodyOf i = some body) (h : exec i s = .next t) : KeepsRun s t := by
  by_cases hk : i.kindWf = true
  · obtain ⟨f, hf⟩ := frame?_of_bodyOf hb
    rw [exec_eq_serveRequest hk hf hb] at h
    exact next_keepsRun (serveRequest_keepsRun (body_keepsRun hb) f s) h
  · rw [exec_of_not_kindWf hk] at h
    exact next_keepsRun (.refl s) h

/-- Every other row, an event or PACK_STORE, keeps the two laws. -/
theorem event_keepsRun {i : Instr} {s t : State} (hb : bodyOf i = none)
    (h : exec i s = .next t) : KeepsRun s t := by
  cases i <;> cases hb
  case fullReset straps => exact next_keepsRun (fullReset_keepsRun straps s) h
  case resetnDeasserted straps =>
    refine next_keepsRun ?_ h
    split
    · exact .refl s
    · exact fullReset_keepsRun straps s
  case startUpEnd =>
    refine next_keepsRun ?_ h
    split
    · exact .refl s
    · exact .of_eq rfl rfl
  case frameComplete => exact next_keepsRun (ite_keepsRun fun _ => withLink_keepsRun s _) h
  case byteGapTimeout => exact next_keepsRun (ite_keepsRun fun _ => withLink_keepsRun s _) h
  case characterReceived => exact next_keepsRun (ite_keepsRun fun _ => withLink_keepsRun s _) h
  case frameSent => exact next_keepsRun (withLink_keepsRun s _) h
  case packStore => exact next_keepsRun (serveFrame_keepsRun (packStore_keepsRun _) _ s) h
  case packComplete =>
    revert h
    simp only [exec, execPackComplete]
    split
    · exact next_keepsRun (.of_eq rfl rfl)
    · exact next_keepsRun (.refl s)
  case triggerLevelChange => exact next_keepsRun (triggerRow_keepsRun KeepsRun.refl _ _ s) h
  case startTrigger =>
    exact next_keepsRun (triggerRow_keepsRun (fun _ => ite_keepsRun startRun_keepsRun) _ _ s) h
  case stopTrigger =>
    exact next_keepsRun
      (triggerRow_keepsRun (fun u => ite_keepsRun fun _ => stopped_keepsRun _ u) _ _ s) h
  case releaseTrigger =>
    exact next_keepsRun
      (triggerRow_keepsRun (fun u => ite_keepsRun fun _ => released_keepsRun u) _ _ s) h
  case advanceTrigger =>
    exact next_keepsRun
      (triggerRow_keepsRun (fun u => ite_keepsRun fun _ => latchAdvance_keepsRun u) _ _ s) h
  case captureTrigger input =>
    exact next_keepsRun (triggerRow_keepsRun (captureAction_keepsRun input) _ _ s) h
  case spliceTrigger input =>
    revert h
    simp only [exec, execSpliceTrigger]
    split
    · exact next_keepsRun ((withTrigger_keepsRun s _).trans (spliceAction_keepsRun input _ _))
    · exact next_keepsRun (.refl s)
  case strobe a =>
    have hreach : KeepsRun s (reachStrobe s) := .of_eq rfl rfl
    exact next_keepsRun (ite_keepsRun fun _ => hreach.trans (judge_keepsRun _ _ _ _)) h
  case stepEnd => exact next_keepsRun (ite_keepsRun fun _ => rotationStepEnd_keepsRun s) h
  case waitTimeout => exact next_keepsRun (ite_keepsRun fun _ => runEnd_keepsRun _ s) h
  case surveyStrobe a =>
    have hreach : KeepsRun s (reachStrobe s) := .of_eq rfl rfl
    exact next_keepsRun (ite_keepsRun fun _ =>
      hreach.trans ((writeEntry_keepsRun a _).trans (judge_keepsRun _ _ _ _))) h
  case surveyStepEnd => exact next_keepsRun (ite_keepsRun fun _ => surveyStepEnd_keepsRun s) h

theorem exec_keepsRun {i : Instr} {s t : State} (h : exec i s = .next t) : KeepsRun s t := by
  cases hb : bodyOf i with
  | some body => exact request_keepsRun hb h
  | none => exact event_keepsRun hb h

/-! ## Every step -/

theorem tick_keepsRun (s : State) : KeepsRun s (tick s) := .of_eq rfl rfl

theorem step_keepsRun {s t : State} (h : step s = .next t) : KeepsRun s t := by
  unfold step at h
  split at h
  · exact next_keepsRun (tick_keepsRun s) h
  next rest _ =>
    have hqueue : KeepsRun s (s.withPending rest) := .of_eq rfl rfl
    exact hqueue.trans (exec_keepsRun h)

/-- Settles O59: a step is a tick or a row, and both keep the two laws. -/
theorem stepKeepsTheRunLaws : Obligations.StepKeepsTheRunLaws := by
  unfold Obligations.StepKeepsTheRunLaws
  intro s t h hs
  obtain ⟨hstack, hswap⟩ := step_keepsRun h
  exact ⟨(stackLaw_iff t).2 (hstack ((stackLaw_iff s).1 hs)), hswap⟩

end Sys2Proof.Machine
end

section
/-! SUPPORT. The run engine's requests that answer at once: STATUS, NOTICE_MASK, ARM, DISARM, HOLD,
CONTINUE, RELEASE and ADVANCE, and the edges that ask for the last two (R76, R77, R83, R88 to R90,
R99, R163, R173). -/

namespace Sys2Proof.Machine

open Safety

/-! ## STATUS (R99) -/

theorem mul_toNat_eq_ite (n : Nat) (b : Bool) : n * b.toNat = if b then n else 0 := by
  cases b <;> simp

/-- The flags byte, each flag at its weight (R178). -/
theorem statusFlags_eq (s : State) :
    s.statusFlags = BitVec.ofNat 8 ((if s.link.linkError then 1 else 0)
      + (if s.link.noticeLost then 2 else 0) + (if s.checker.logOverflow then 4 else 0)
      + (if s.rotation.swapWaiting then 8 else 0)
      + (if s.survey.referencePresent then 16 else 0)) := by
  simp only [State.statusFlags, ← mul_toNat_eq_ite, Nat.one_mul]

/-! ## NOTICE_MASK (R173) -/

/-- A property of the bits of a 16-bit number holds at every place if it holds at the first 16. -/
theorem getLsbD_eq_of_lt {m : BitVec 16} (p : Nat → Bool) (hp : ∀ k, 16 ≤ k → p k = false)
    (h : ∀ k : Fin 16, m.getLsbD k = p k) (k : Nat) : m.getLsbD k = p k := by
  by_cases hk : k < 16
  · exact h ⟨k, hk⟩
  · rw [BitVec.getLsbD_of_ge m k (not_lt.1 hk), hp k (not_lt.1 hk)]

theorem getLsbD_writable (k : Nat) :
    (0x01FE : BitVec 16).getLsbD k = decide (1 ≤ k ∧ k ≤ 8) :=
  getLsbD_eq_of_lt (fun k => decide (1 ≤ k ∧ k ≤ 8)) (fun _ hk => decide_eq_false (by omega))
    (by decide) k

theorem getLsbD_unused (k : Nat) :
    (0xFE00 : BitVec 16).getLsbD k = decide (9 ≤ k ∧ k < 16) :=
  getLsbD_eq_of_lt (fun k => decide (9 ≤ k ∧ k < 16)) (fun _ hk => decide_eq_false (by omega))
    (by decide) k

theorem getLsbD_ready (k : Nat) : (0x0001 : BitVec 16).getLsbD k = decide (k = 0) :=
  getLsbD_eq_of_lt (fun k => decide (k = 0)) (fun _ hk => decide_eq_false (by omega))
    (by decide) k

/-- The bits that R173 refuses are those from 9 up. -/
theorem unused_eq_zero_iff (m : BitVec 16) :
    m &&& 0xFE00 = 0 ↔ ∀ k, 9 ≤ k → m.getLsbD k = false := by
  constructor
  · intro h k hk
    have hbit := congrArg (BitVec.getLsbD · k) h
    simp only [BitVec.getLsbD_and, getLsbD_unused, hk, true_and] at hbit
    by_cases hlt : k < 16
    · simpa [hlt] using hbit
    · exact BitVec.getLsbD_of_ge m k (not_lt.1 hlt)
  · intro h
    refine BitVec.eq_of_getLsbD_eq fun k _ => ?_
    rw [BitVec.getLsbD_and, getLsbD_unused]
    by_cases hk : 9 ≤ k
    · simp [h k hk]
    · simp [hk]

/-- A mask without refused bits is written as it is, with READY's bit set (R173). -/
theorem getLsbD_maskOf {m : BitVec 16} (h : ∀ k, 9 ≤ k → m.getLsbD k = false) (k : Nat) :
    (maskOf m).getLsbD k = (decide (k = 0) || m.getLsbD k) := by
  rw [maskOf, BitVec.getLsbD_or, BitVec.getLsbD_and, getLsbD_writable, getLsbD_ready, Bool.or_comm]
  by_cases h9 : 9 ≤ k
  · simp [h k h9]
  · by_cases h0 : k = 0
    · simp [h0]
    · have hin : 1 ≤ k ∧ k ≤ 8 := by omega
      simp [hin]

theorem noticeMask_range {s : State} {m : BitVec 16} (hm : s.engine.mode ≠ .lockout)
    (h : ∃ k, 9 ≤ k ∧ m.getLsbD k = true) : noticeMask m s = refuse .range s := by
  obtain ⟨k, hk, hbit⟩ := h
  rw [noticeMask, unlessLocked_of_ne hm, if_pos]
  intro hzero
  rw [(unused_eq_zero_iff m).1 hzero k hk] at hbit
  cases hbit

theorem noticeMask_accept {s : State} {m : BitVec 16} (hm : s.engine.mode ≠ .lockout)
    (h : ∀ k, 9 ≤ k → m.getLsbD k = false) :
    noticeMask m s =
      accept (s.withLink { s.link with noticeMask := maskOf m }) (bytes2 (maskOf m).toNat) := by
  rw [noticeMask, unlessLocked_of_ne hm, if_neg (not_not.2 ((unused_eq_zero_iff m).2 h))]

/-- Settles O13: the status record with its flags spelled out, and the mask bit by bit. -/
theorem statusAndNoticeMask : Obligations.StatusAndNoticeMask := by
  unfold Obligations.StatusAndNoticeMask
  refine ⟨fun r s hpayload hs => exec_of_accept rfl rfl rfl hs ?_, fun r s h l hpayload hs hm => ?_⟩
  · rw [Req.frame, hpayload, ← statusFlags_eq]
    rfl
  · have hbody : serveNoticeMask (r.frame Kind.noticeMask).payload s = noticeMask (h ++ l) s := by
      rw [Req.frame, hpayload, serveNoticeMask]
    exact
      ⟨fun hbad => exec_of_refuse rfl rfl rfl hs (hbody.trans (noticeMask_range hm hbad)),
        fun hok => ⟨maskOf (h ++ l), getLsbD_maskOf hok,
          exec_of_accept rfl rfl rfl hs (hbody.trans (noticeMask_accept hm hok))⟩⟩

/-! ## ARM and DISARM (R76, R77) -/

section
variable {s : State} (hm : s.engine.mode = .idle ∨ s.engine.mode = .armed)
include hm

theorem arm_range {mode : Byte} (h : RunMode.ofByte? mode = none) (stopOnFail clear : Byte)
    (waitTimeout : Nat) : arm mode stopOnFail waitTimeout clear s = refuse .range s := by
  obtain ⟨hlive, hlock⟩ := not_live_of_idle_or_armed hm
  rw [arm, unlessLocked_of_ne hlock, if_neg (by simp [hlive]), h]

variable {mode : Byte} {m : RunMode} (h : RunMode.ofByte? mode = some m)
include h

theorem arm_empty (hcount : s.rotation.active.count = 0) (stopOnFail clear : Byte)
    (waitTimeout : Nat) : arm mode stopOnFail waitTimeout clear s = refuse .empty s := by
  obtain ⟨hlive, hlock⟩ := not_live_of_idle_or_armed hm
  rw [arm, unlessLocked_of_ne hlock, if_neg (by simp [hlive]), h]
  exact if_pos hcount

theorem arm_accept (hcount : 0 < s.rotation.active.count) (stopOnFail clear : Byte)
    (waitTimeout : Nat) :
    arm mode stopOnFail waitTimeout clear s =
      accept (s.withEngine { s.engine with
        mode := .armed
        options := ⟨m, stopOnFail.toNat, waitTimeout, yes clear⟩ }) [] := by
  obtain ⟨hlive, hlock⟩ := not_live_of_idle_or_armed hm
  rw [arm, unlessLocked_of_ne hlock, if_neg (by simp [hlive]), h]
  exact if_neg (Nat.ne_of_gt hcount)

end

theorem disarm_accept {s : State} (hm : s.engine.mode = .armed) :
    disarm s = accept (disarmed s) [] := by
  rw [disarm, unlessLocked_of_ne (by simp [hm]), if_pos hm]

theorem disarm_state {s : State} (hlock : s.engine.mode ≠ .lockout) (hm : s.engine.mode ≠ .armed) :
    disarm s = refuse .state s := by
  rw [disarm, unlessLocked_of_ne hlock, if_neg hm]

/-- Settles O30: each request's checks in their order, one after another. -/
theorem armAndDisarm : Obligations.ArmAndDisarm := by
  unfold Obligations.ArmAndDisarm
  refine ⟨fun r s mode stopOnFail h l clear hpayload hs hm => ?_, fun r s hpayload hs => ?_⟩
  · have hbody : serveArm (r.frame Kind.arm).payload s = arm mode stopOnFail (num2 h l) clear s := by
      rw [Req.frame, hpayload, serveArm]
    refine
      ⟨fun hnone => exec_of_refuse rfl rfl rfl hs (hbody.trans (arm_range hm hnone _ _ _)),
        fun m hmode => ⟨fun hcount => exec_of_refuse rfl rfl rfl hs
          (hbody.trans (arm_empty hm hmode hcount _ _ _)),
        fun hcount => exec_of_accept rfl rfl rfl hs ?_⟩⟩
    rw [hbody, arm_accept hm hmode hcount, yes_eq]
    rfl
  · have hbody : serveDisarm (r.frame Kind.disarm).payload s = disarm s := by
      rw [Req.frame, hpayload, serveDisarm]
    exact
      ⟨fun hm => exec_of_refuse rfl rfl rfl hs (hbody.trans (unlessLocked_lockout hm _)),
        fun hlock hm => exec_of_refuse rfl rfl rfl hs (hbody.trans (disarm_state hlock hm)),
        fun hm => exec_of_accept rfl rfl rfl hs (hbody.trans (disarm_accept hm))⟩

/-! ## HOLD and CONTINUE (R89, R90) -/

theorem hold_running {s : State} (hm : s.engine.mode = .running) :
    hold s = accept (s.withEngine { s.engine with mode := .held .running }) [] := by
  rw [hold, unlessLocked_of_ne (by simp [hm]), if_pos hm]

theorem hold_waiting {s : State} (hm : s.engine.mode = .waiting) :
    hold s = accept (s.withEngine { s.engine with mode := .held .waiting }) [] := by
  rw [hold, unlessLocked_of_ne (by simp [hm]), if_neg (by simp [hm]), if_pos hm]

/-- CONTINUE in HELD is accepted, and does what its origin asks for (R90). -/
theorem continueRun_held {s : State} {o : HeldOrigin} (hm : s.engine.mode = .held o) :
    continueRun s = accept (continueFrom o s) [] := by
  rw [continueRun, unlessLocked_of_ne (by simp [hm]), hm]
  rfl

/-- Settles O35: HOLD by the state it freezes, CONTINUE by the origin that HELD keeps. -/
theorem holdAndContinue : Obligations.HoldAndContinue := by
  unfold Obligations.HoldAndContinue
  refine ⟨fun r s hpayload hs => ?_, fun r s hpayload hs => ?_⟩
  · have hbody : serveHold (r.frame Kind.hold).payload s = hold s := by
      rw [Req.frame, hpayload, serveHold]
    exact
      ⟨fun hm => exec_of_accept rfl rfl rfl hs (hbody.trans (hold_running hm)),
        fun hm => exec_of_accept rfl rfl rfl hs (hbody.trans (hold_waiting hm))⟩
  · have hcontinue {o : HeldOrigin} (hm : s.engine.mode = .held o) :
        exec (.continueRun r) s =
          .next (replied (continueFrom o s) (r.frame Kind.continueRun) .ok []) := by
      refine exec_of_accept rfl rfl rfl hs ?_
      rw [Req.frame, hpayload, serveContinueRun, continueRun_held hm]
    refine ⟨hcontinue, fun hm hlatch => ?_, fun hm hlatch => ?_, hcontinue⟩
    · rw [hcontinue hm, continueFrom, if_neg (by simp [hlatch])]
      rfl
    · rw [hcontinue hm, continueFrom, if_pos hlatch]

/-! ## RELEASE and ADVANCE (R83, R88, R163) -/

theorem takesRelease_iff (e : Engine) :
    e.takesRelease = true ↔ e.rotationLive = true ∧ e.mode ≠ .running := by
  simp [Engine.takesRelease]

theorem takesRelease_waiting {e : Engine} (hk : e.runKind = .rotation) (hm : e.mode = .waiting) :
    e.takesRelease = true :=
  (takesRelease_iff e).2 ⟨rotationLive_of_kind hk (by rw [hm]; rfl), by simp [hm]⟩

theorem takesRelease_held {e : Engine} {o : HeldOrigin} (hk : e.runKind = .rotation)
    (hm : e.mode = .held o) : e.takesRelease = true :=
  (takesRelease_iff e).2 ⟨rotationLive_of_kind hk (by rw [hm]; rfl), by simp [hm]⟩

theorem not_takesRelease {e : Engine} (h : e.rotationLive = false ∨ e.mode = .running) :
    ¬ e.takesRelease = true := by
  rw [takesRelease_iff]
  rintro ⟨hlive, hm⟩
  exact h.elim (fun hno => by simp [hno] at hlive) hm

/-- A release taken in WAITING starts the step that waits (R88 step 4). -/
theorem released_waiting {s : State} (hm : s.engine.mode = .waiting) :
    released s = startWaitingStep s := if_pos hm

/-- A release taken in HELD is latched (R88 step 5). -/
theorem released_held {s : State} {o : HeldOrigin} (hm : s.engine.mode = .held o) :
    released s = latchRelease s := if_neg (by simp [hm])

theorem ne_lockout_of_isLive {m : EngineState} (h : m.isLive = true) : m ≠ .lockout := by
  rintro rfl
  cases h

theorem release_accept {s : State} (h : s.engine.takesRelease = true) :
    release s = accept (released s) [] := by
  have hlive := live_of_rotationLive ((takesRelease_iff _).1 h).1
  rw [release, unlessLocked_of_ne (ne_lockout_of_isLive hlive), if_pos h]

theorem advance_accept {s : State} (h : s.engine.rotationLive = true) :
    advance s = accept (latchAdvance s) [] := by
  rw [advance, unlessLocked_of_ne (ne_lockout_of_isLive (live_of_rotationLive h)), if_pos h]

/-- Settles O36: the requests and the edges carry out the same release and the same advance, by the
engine state. -/
theorem releaseAndAdvance : Obligations.ReleaseAndAdvance := by
  unfold Obligations.ReleaseAndAdvance
  refine ⟨fun r s hpayload hs hk => ?_, fun r s hpayload hs hlive => ?_, fun input s hedge => ?_,
    fun input s hedge => ?_⟩
  · have hrelease (htakes : s.engine.takesRelease = true) :
        exec (.release r) s = .next (replied (released s) (r.frame Kind.release) .ok []) := by
      refine exec_of_accept rfl rfl rfl hs ?_
      rw [Req.frame, hpayload, serveRelease, release_accept htakes]
    refine ⟨fun hm => ?_, fun o hm => ?_⟩
    · rw [hrelease (takesRelease_waiting hk hm), released_waiting hm]
    · rw [hrelease (takesRelease_held hk hm), released_held hm]
      rfl
  · refine exec_of_accept rfl rfl rfl hs ?_
    rw [Req.frame, hpayload, serveAdvance, advance_accept hlive]
    rfl
  · have hrow : exec (.releaseTrigger input) s = .next (releaseAction (s.levelChanged input)) :=
      congrArg Host.Outcome.next (triggerRow_of_edge hedge releaseAction)
    have hengine : (s.levelChanged input).engine = s.engine := rfl
    rw [hrow, ← hengine, releaseAction]
    refine ⟨fun hk hm => ?_, fun o hk hm => ?_, fun hno => ?_⟩
    · rw [if_pos (takesRelease_waiting hk hm), released_waiting hm]
    · rw [if_pos (takesRelease_held hk hm), released_held hm]
      rfl
    · rw [if_neg (not_takesRelease hno)]
  · have hrow : exec (.advanceTrigger input) s = .next (advanceAction (s.levelChanged input)) :=
      congrArg Host.Outcome.next (triggerRow_of_edge hedge advanceAction)
    have hengine : (s.levelChanged input).engine = s.engine := rfl
    rw [hrow, ← hengine, advanceAction]
    refine ⟨fun hlive => ?_, fun hlive => ?_⟩
    · rw [if_pos hlive]
      rfl
    · rw [if_neg (by simp [hlive])]

end Sys2Proof.Machine
end

section
/-! SUPPORT. The step end of a rotation run, branch by branch: the pending stop, the pending splice,
the advance and the plain move, each to a frame or to the wrap (R82, R84, R87, R105). -/

namespace Sys2Proof.Machine

open Safety

/-! ## STEP_END (R87) -/

theorem execStepEnd_due {s : State} (h : StepEndDue s .rotation) :
    exec .stepEnd s = .next (rotationStepEnd s) :=
  congrArg Host.Outcome.next (if_pos ((stepEnds_iff_stepEndDue s .rotation).2 h))

theorem execStepEnd_not_due {s : State} (h : ¬ StepEndDue s .rotation) :
    exec .stepEnd s = .next s :=
  congrArg Host.Outcome.next (if_neg (mt (stepEnds_iff_stepEndDue s .rotation).1 h))

/-- A step end with a pending stop is the run end (R87 step 1). -/
theorem rotationStepEnd_pendingStop {s : State} {c : StopCause}
    (h : s.engine.pendingStop.cause? = some c) : rotationStepEnd s = runEnd c (countStep s) := by
  have h' : (countStep s).engine.pendingStop.cause? = some c := h
  simp only [rotationStepEnd, h']

/-- Without one, the live frame moves (R87 steps 2 to 4). -/
theorem rotationStepEnd_moves {s : State} {f : RunFrame} (hstop : s.engine.pendingStop = .none)
    (hlive : s.engine.live = some f) : rotationStepEnd s = endMove f (countStep s) := by
  have hstop' : (countStep s).engine.pendingStop.cause? = none := by
    rw [show (countStep s).engine.pendingStop = .none from hstop]
    rfl
  have hlive' : (countStep s).engine.live = some f := hlive
  simp only [rotationStepEnd, hstop', hlive']

/-! ## The move of a step end (R87 steps 2 to 4) -/

theorem endMove_splice {s : State} {x : Splice} (h : s.engine.pendingSplice = some x)
    (f : RunFrame) : endMove f s = takePending x (settle (s.moveOn f s.engine.stack) s) := by
  simp only [endMove, h]

/-- Without a pending splice, an advance where one is latched and the plain move elsewhere, with the
latch clear either way. -/
theorem endMove_plain {s : State} (h : s.engine.pendingSplice = none) (f : RunFrame) :
    endMove f s =
      goOn (settle
        (if s.engine.advanceLatch then s.advanceOn f s.engine.stack
          else s.moveOn f s.engine.stack)
        (s.withEngine { s.engine with advanceLatch := false })) := by
  have hmove : endMove f s =
      if s.engine.advanceLatch then
        goOn (settle (s.advanceOn f s.engine.stack)
          (s.withEngine { s.engine with advanceLatch := false }))
      else goOn (settle (s.moveOn f s.engine.stack) s) := by
    simp only [endMove, h]
  rw [hmove]
  split
  · rfl
  next hlatch =>
    have hclear : s.withEngine { s.engine with advanceLatch := false } = s := by
      rw [← Bool.eq_false_iff.2 hlatch]
      rfl
    rw [hclear]

/-! ## A move carried out (R82) -/

theorem settle_frame (g : RunFrame) (stack : List SavedFrame) (s : State) :
    settle (.frame g stack) s = s.putFrames g stack := rfl

/-- The wrap of a ONE_SHOT run ends it (R82). -/
theorem settle_wrap_oneShot {s : State} (h : s.engine.options.mode = .oneShot) :
    settle .wrap s = runEnd .complete (swapIfWaiting .wrap s) := by
  simp only [settle, swapIfWaiting_engine, h]

/-- The wrap of a CONTINUOUS run begins the active rotation again (R82). -/
theorem settle_wrap_continuous {s : State} (h : s.engine.options.mode = .continuous) :
    settle .wrap s =
      (swapIfWaiting .wrap s).withEngine { s.engine with
        live := some ((swapIfWaiting .wrap s).setupBase 0)
        stack := [] } := by
  simp only [settle, swapIfWaiting_engine, h, State.putFrames]

/-! ## After the move (R87, R105) -/

theorem goOn_live {s : State} (h : s.engine.mode.isLive = true) : goOn s = stepStart s := if_pos h

theorem goOn_runEnd (c : StopCause) (s : State) : goOn (runEnd c s) = runEnd c s :=
  if_neg (by simp)

/-- A pending splice is pushed over the frame that the move brought (R105 steps 4 to 6). -/
theorem takePending_live {s : State} {g : RunFrame} (hm : s.engine.mode.isLive = true)
    (hlive : s.engine.live = some g) (x : Splice) :
    takePending x s =
      stepStart (s.withEngine { s.engine with
        live := some x.frame
        stack := ⟨g, x.skip⟩ :: s.engine.stack
        pendingSplice := none }) := by
  rw [takePending, if_pos hm, pushed_of_live hlive]

theorem takePending_runEnd (x : Splice) (c : StopCause) (s : State) :
    takePending x (runEnd c s) = runEnd c s := if_neg (by simp)

/-- Settles O37: the first of the four that applies, and for the splice and the moves, where the move
brings the run. -/
theorem stepEndTakesTheFirstThatApplies : Obligations.StepEndTakesTheFirstThatApplies := by
  unfold Obligations.StepEndTakesTheFirstThatApplies
  refine ⟨fun s => execStepEnd_not_due, ?_⟩
  intro s f hdue hlive c
  rw [execStepEnd_due hdue]
  have hmode : s.engine.mode.isLive = true := by rw [hdue.1]; rfl
  refine ⟨fun hstop => ?_, fun hstop => ?_, fun hstop => ?_⟩
  · rw [rotationStepEnd_pendingStop (c := .failLimit) (by rw [hstop]; rfl)]
    rfl
  · rw [rotationStepEnd_pendingStop (c := .quarantineStop) (by rw [hstop]; rfl)]
    rfl
  rw [rotationStepEnd_moves hstop hlive, show countStep s = c from rfl]
  refine ⟨fun x hsplice => ?_, fun hsplice => ?_⟩
  · have hmove : endMove f c = takePending x (settle (c.moveOn f s.engine.stack) c) :=
      endMove_splice (s := c) hsplice f
    rw [hmove]
    refine ⟨fun g stack hmoved => ?_, fun hmoved => ⟨fun hshot => ?_, fun hcont => ?_⟩⟩
    · rw [hmoved, settle_frame, takePending_live (s := c.putFrames g stack) hmode rfl]
      rfl
    · rw [hmoved, settle_wrap_oneShot (s := c) hshot, takePending_runEnd]
    · rw [hmoved, settle_wrap_continuous (s := c) hcont, takePending_live (by exact hmode) rfl]
      rfl
  · intro moved d
    have hmove : endMove f c = goOn (settle moved d) := endMove_plain (s := c) hsplice f
    rw [hmove]
    refine ⟨fun g stack hmoved => ?_, fun hmoved => ⟨fun hshot => ?_, fun hcont => ?_⟩⟩
    · rw [hmoved, settle_frame, goOn_live (s := d.putFrames g stack) hmode]
      rfl
    · rw [hmoved, settle_wrap_oneShot (s := d) hshot, goOn_runEnd]
    · rw [hmoved, settle_wrap_continuous (s := d) hcont, goOn_live (by exact hmode)]
      rfl

end Sys2Proof.Machine
end

section
/-! SUPPORT. The judgement of a strobe (R129 to R138) in its stages: the counts and the failing
step, then the lanes quarantined one after another, up to the limit; what each does to the checker,
the engine and the link. -/

namespace Sys2Proof.Machine

open Safety

/-! ## Records at the log (R134) -/

/-- Logging reads and writes the log and its overflow flag alone. -/
theorem log_frame (c : Checker) (r : FailRec) :
    c.log r = { c with failLog := (c.log r).failLog, logOverflow := (c.log r).logOverflow } := by
  unfold Checker.log
  split <;> rfl

theorem log_withQuarantine (c : Checker) (r : FailRec) (q : LaneSet) :
    ({ c.log r with quarantine := q } : Checker) = ({ c with quarantine := q } : Checker).log r := by
  unfold Checker.log
  dsimp only
  split <;> rfl

theorem log_withNotified (c : Checker) (r : FailRec) (b : Bool) :
    ({ c.log r with firstFailNotified := b } : Checker) =
      ({ c with firstFailNotified := b } : Checker).log r := by
  unfold Checker.log
  dsimp only
  split <;> rfl

/-- Records logged one after another change the log and its overflow flag alone. -/
theorem foldl_log_frame (rs : List FailRec) (c : Checker) :
    rs.foldl Checker.log c =
      { c with
        failLog := (rs.foldl Checker.log c).failLog
        logOverflow := (rs.foldl Checker.log c).logOverflow } := by
  induction rs generalizing c with
  | nil => rfl
  | cons r rs ih => rw [List.foldl_cons, ih, log_frame]

theorem foldl_log_withQuarantine (rs : List FailRec) (c : Checker) (q : LaneSet) :
    ({ rs.foldl Checker.log c with quarantine := q } : Checker) =
      rs.foldl Checker.log { c with quarantine := q } := by
  induction rs generalizing c with
  | nil => rfl
  | cons r rs ih => rw [List.foldl_cons, ih, log_withQuarantine, List.foldl_cons]

/-! ## Lanes added to a set -/

/-- A lane set with the lanes of a list added. -/
def withLanes (l : LaneSet) (lanes : List Lane) : LaneSet :=
  lanesWhere fun m => hasLane l m || decide (m ∈ lanes)

@[simp] theorem hasLane_withLanes (l : LaneSet) (lanes : List Lane) (n : Lane) :
    hasLane (withLanes l lanes) n = (hasLane l n || decide (n ∈ lanes)) := hasLane_lanesWhere _ n

theorem withLanes_nil (l : LaneSet) : withLanes l [] = l := laneSet_ext fun n => by simp

theorem withLanes_cons (l : LaneSet) (n : Lane) (lanes : List Lane) :
    withLanes l (n :: lanes) = withLanes (l ||| oneLane n) lanes :=
  laneSet_ext fun m => by simp [Bool.or_assoc]

/-! ## One lane quarantined (R135, R136) -/

theorem quarantined_eq (e : Engine) (a : QuarantineAction) :
    e.quarantined a =
      { e with
        quarantineInRun := true
        pendingStop := if a = .stop then .quarantineStop else e.pendingStop } := by
  cases a <;> rfl

section
variable (o : LaneSet) (s : State) (n : Lane)

theorem quarantineLane_checker :
    (quarantineLane o s n).checker =
      ({ s.checker with quarantine := s.checker.quarantine ||| oneLane n } : Checker).log
        (s.failRec (.quarantine n) o) := rfl

theorem quarantineLane_action :
    (quarantineLane o s n).checker.quarantineAction = s.checker.quarantineAction := by
  rw [quarantineLane_checker, log_frame]

theorem quarantineLane_quarantine :
    (quarantineLane o s n).checker.quarantine = s.checker.quarantine ||| oneLane n := by
  rw [quarantineLane_checker, log_frame]

theorem quarantineLane_engine :
    (quarantineLane o s n).engine =
      { s.engine with
        quarantineInRun := true
        pendingStop :=
          if s.checker.quarantineAction = .stop then .quarantineStop
          else s.engine.pendingStop } := by
  rw [← quarantineLane_action o s n]
  exact quarantined_eq s.engine _

theorem quarantineLane_link :
    (quarantineLane o s n).link =
      s.link.notice .quarantine
        (byte n.val ++ bytesL (s.checker.quarantine ||| oneLane n) ++ bytesC s.engine.stepCounter
          ++ byte s.engine.stack.length) := by
  rw [← quarantineLane_quarantine o s n]
  rfl

/-- The records of one strobe agree in all but their kind: a quarantine moves nothing they hold. -/
theorem quarantineLane_failRec (d : FailDetail) :
    (quarantineLane o s n).failRec d o = s.failRec d o := by
  simp only [State.failRec, quarantineLane_engine, Engine.depth, Engine.place, Engine.baseSlot]

end

/-! ## A list of lanes quarantined (R135) -/

theorem quarantineFold_checker (o : LaneSet) (lanes : List Lane) (s : State) :
    (lanes.foldl (quarantineLane o) s).checker =
      (lanes.map fun n => s.failRec (.quarantine n) o).foldl Checker.log
        { s.checker with quarantine := withLanes s.checker.quarantine lanes } := by
  induction lanes generalizing s with
  | nil => simp only [List.foldl_nil, List.map_nil, withLanes_nil]
  | cons n lanes ih =>
    rw [List.foldl_cons, ih, quarantineLane_quarantine, quarantineLane_checker, log_withQuarantine]
    simp only [quarantineLane_failRec, List.map_cons, List.foldl_cons, withLanes_cons]

theorem quarantineFold_engine (o : LaneSet) (lanes : List Lane) (s : State) :
    (lanes.foldl (quarantineLane o) s).engine =
      { s.engine with
        quarantineInRun := s.engine.quarantineInRun || decide (lanes ≠ [])
        pendingStop :=
          if lanes ≠ [] ∧ s.checker.quarantineAction = .stop then .quarantineStop
          else s.engine.pendingStop } := by
  induction lanes generalizing s with
  | nil => simp
  | cons n lanes ih =>
    rw [List.foldl_cons, ih, quarantineLane_action, quarantineLane_engine]
    by_cases hstop : s.checker.quarantineAction = .stop <;> simp [hstop]

/-- What a lane's QUARANTINE notice carries where the lanes of a list are quarantined in ascending
order: the set with the lanes up to its own (R135 step 3). -/
def State.quarantineNotice (s : State) (lanes : List Lane) (n : Lane) : NoticeKind × List Byte :=
  (.quarantine, byte n.val
    ++ bytesL (lanesWhere fun m => hasLane s.checker.quarantine m || decide (m ∈ lanes ∧ m ≤ n))
    ++ bytesC s.engine.stepCounter ++ byte s.engine.stack.length)

/-- Notices made one after another. -/
def Link.noticed (l : Link) (xs : List (NoticeKind × List Byte)) : Link :=
  xs.foldl (fun l x => l.notice x.1 x.2) l

theorem quarantineNotice_head (s : State) {n : Lane} {lanes : List Lane}
    (h : ∀ m ∈ lanes, n < m) :
    s.quarantineNotice (n :: lanes) n =
      (.quarantine, byte n.val ++ bytesL (s.checker.quarantine ||| oneLane n)
        ++ bytesC s.engine.stepCounter ++ byte s.engine.stack.length) := by
  have hset : (lanesWhere fun m =>
      hasLane s.checker.quarantine m || decide (m ∈ n :: lanes ∧ m ≤ n)) =
        s.checker.quarantine ||| oneLane n := by
    refine laneSet_ext fun m => ?_
    have hiff : (m ∈ n :: lanes ∧ m ≤ n) ↔ m = n := by
      refine ⟨fun ⟨hm, hle⟩ => ?_, fun hm => ⟨by simp [hm], hm.le⟩⟩
      exact (List.mem_cons.1 hm).elim id fun hm => absurd (h m hm) (not_lt.2 hle)
    rw [hasLane_lanesWhere, decide_eq_decide.2 hiff, hasLane_or, hasLane_oneLane]
  rw [State.quarantineNotice, hset]

theorem quarantineNotice_tail (o : LaneSet) (s : State) {n m : Lane} (lanes : List Lane)
    (h : n < m) :
    (quarantineLane o s n).quarantineNotice lanes m = s.quarantineNotice (n :: lanes) m := by
  have hset : (lanesWhere fun k =>
      hasLane (s.checker.quarantine ||| oneLane n) k || decide (k ∈ lanes ∧ k ≤ m)) =
        lanesWhere fun k =>
          hasLane s.checker.quarantine k || decide (k ∈ n :: lanes ∧ k ≤ m) := by
    refine laneSet_ext fun k => ?_
    by_cases hk : k = n
    · simp [hk, h.le]
    · simp [hk]
  simp only [State.quarantineNotice, quarantineLane_quarantine, quarantineLane_engine, hset]

theorem quarantineFold_link (o : LaneSet) {lanes : List Lane} (hlanes : lanes.Pairwise (· < ·))
    (s : State) :
    (lanes.foldl (quarantineLane o) s).link =
      s.link.noticed (lanes.map (s.quarantineNotice lanes)) := by
  induction lanes generalizing s with
  | nil => rfl
  | cons n lanes ih =>
    obtain ⟨hn, hlanes⟩ := List.pairwise_cons.1 hlanes
    have htail : lanes.map ((quarantineLane o s n).quarantineNotice lanes) =
        lanes.map (s.quarantineNotice (n :: lanes)) :=
      List.map_congr_left fun m hm => quarantineNotice_tail o s lanes (hn m hm)
    rw [List.foldl_cons, ih hlanes, htail, quarantineLane_link, List.map_cons,
      quarantineNotice_head s hn]
    rfl

/-! ## The failing step (R131, R132) -/

theorem notifyFirstFail_checker (r : FailRec) (s : State) :
    (notifyFirstFail r s).checker = { s.checker with firstFailNotified := true } := by
  unfold notifyFirstFail
  split
  next h => rw [← h]
  · rfl

theorem notifyFirstFail_engine (r : FailRec) (s : State) :
    (notifyFirstFail r s).engine = s.engine := by
  unfold notifyFirstFail
  split <;> rfl

theorem notifyFirstFail_link (r : FailRec) (s : State) :
    (notifyFirstFail r s).link =
      s.link.noticed
        (if s.checker.firstFailNotified = false then [(.stepFail, r.bytes)] else []) := by
  unfold notifyFirstFail
  cases s.checker.firstFailNotified <;> rfl

theorem testStopOnFail_checker (s : State) : (testStopOnFail s).checker = s.checker := by
  unfold testStopOnFail
  split <;> rfl

theorem testStopOnFail_link (s : State) : (testStopOnFail s).link = s.link := by
  unfold testStopOnFail
  split <;> rfl

theorem testStopOnFail_engine (s : State) :
    (testStopOnFail s).engine =
      { s.engine with
        pendingStop :=
          if s.engine.options.stopOnFail ≠ 0 ∧
              s.engine.options.stopOnFail ≤ s.checker.failingSteps ∧
              s.engine.pendingStop = .none then .failLimit
          else s.engine.pendingStop } := by
  unfold testStopOnFail Engine.askFailLimit
  by_cases hlimit : s.engine.options.stopOnFail ≠ 0 ∧
      s.engine.options.stopOnFail ≤ s.checker.failingSteps
  · by_cases hnone : s.engine.pendingStop = .none <;> simp [hlimit, hnone]
  · rw [if_neg (by simpa using hlimit), if_neg fun ⟨hne, hle, _⟩ => hlimit ⟨hne, hle⟩]

theorem failingStep_checker (m f o : LaneSet) (s : State) :
    (failingStep m f o s).checker =
      ({ s.checker with
        failingSteps := min (s.checker.failingSteps + 1) Config.maxFailing
        firstFailNotified := true } : Checker).log (s.failRec (.stepFail m f) o) := by
  rw [failingStep, testStopOnFail_checker, notifyFirstFail_checker]
  exact log_withNotified _ _ true

theorem failingStep_link (m f o : LaneSet) (s : State) :
    (failingStep m f o s).link =
      s.link.noticed (if s.checker.firstFailNotified = false then
        [(.stepFail, (s.failRec (.stepFail m f) o).bytes)] else []) := by
  have hnotified (r : FailRec) :
      (logFailingStep r s).checker.firstFailNotified = s.checker.firstFailNotified := by
    rw [logFailingStep, State.withChecker_checker, log_frame]
  rw [failingStep, testStopOnFail_link, notifyFirstFail_link, hnotified]
  rfl

theorem failingStep_engine (m f o : LaneSet) (s : State) :
    (failingStep m f o s).engine =
      { s.engine with
        pendingStop :=
          if s.engine.options.stopOnFail ≠ 0 ∧
              s.engine.options.stopOnFail ≤ min (s.checker.failingSteps + 1) Config.maxFailing ∧
              s.engine.pendingStop = .none then .failLimit
          else s.engine.pendingStop } := by
  have hcount (r : FailRec) : (notifyFirstFail r (logFailingStep r s)).checker.failingSteps =
      min (s.checker.failingSteps + 1) Config.maxFailing := by
    rw [notifyFirstFail_checker, logFailingStep, State.withChecker_checker, log_frame]
  rw [failingStep, testStopOnFail_engine, hcount, notifyFirstFail_engine]
  rfl

/-! ## The counts and the failing step (R129 to R132) -/

/-- A step fails where a lane is a mismatch or a fault (R131). -/
def stepFails (m f : LaneSet) : Bool := decide (m ||| f ≠ 0)

/-- The state once the lanes are counted and a failing step is recorded, before any quarantine. -/
def countedAndLogged (m f o : LaneSet) (s : State) : State :=
  if m ||| f = 0 then countStrobe m f s else failingStep m f o (countStrobe m f s)

/-- The counts of a strobe: both of each lane, and the failing steps with the mark of the first
(R129 to R131). -/
def Checker.counted (c : Checker) (driven : Lane → Bool) (m f : LaneSet) : Checker :=
  { c with
    mismatchCounts := c.countMismatches m
    faultCounts := c.countFaults driven f
    failingSteps :=
      if stepFails m f then min (c.failingSteps + 1) Config.maxFailing else c.failingSteps
    firstFailNotified := c.firstFailNotified || stepFails m f }

section
variable (m f o : LaneSet) (s : State)

theorem failRec_withChecker (c : Checker) (d : FailDetail) :
    (s.withChecker c).failRec d o = s.failRec d o := rfl

/-- What counting and logging leave of the state, block by block. -/
theorem countedAndLogged_keeps {α : Type} (get : State → α)
    (hcount : ∀ t c, get (t.withChecker c) = get t)
    (hfail : ∀ t, get (failingStep m f o t) = get t) : get (countedAndLogged m f o s) = get s := by
  unfold countedAndLogged countStrobe
  split
  · exact hcount _ _
  · exact (hfail _).trans (hcount _ _)

theorem countedAndLogged_checker :
    (countedAndLogged m f o s).checker =
      (if stepFails m f then [s.failRec (.stepFail m f) o] else []).foldl Checker.log
        (s.checker.counted s.drives m f) := by
  unfold countedAndLogged
  by_cases h : m ||| f = 0
  · have hfails : stepFails m f = false := decide_eq_false (not_not.2 h)
    simp [h, hfails, countStrobe, Checker.counted]
  · have hfails : stepFails m f = true := decide_eq_true h
    rw [if_neg h, failingStep_checker]
    simp [hfails, countStrobe, Checker.counted, failRec_withChecker]

/-- Logging leaves the counts and the settings as the counting left them. -/
theorem countedAndLogged_checker_frame :
    (countedAndLogged m f o s).checker =
      { s.checker.counted s.drives m f with
        failLog := (countedAndLogged m f o s).checker.failLog
        logOverflow := (countedAndLogged m f o s).checker.logOverflow } := by
  rw [countedAndLogged_checker, foldl_log_frame]

theorem countedAndLogged_link :
    (countedAndLogged m f o s).link =
      s.link.noticed (if stepFails m f ∧ s.checker.firstFailNotified = false then
        [(.stepFail, (s.failRec (.stepFail m f) o).bytes)] else []) := by
  unfold countedAndLogged
  by_cases h : m ||| f = 0
  · have hfails : stepFails m f = false := decide_eq_false (not_not.2 h)
    simp [h, hfails, countStrobe, Link.noticed]
  · have hfails : stepFails m f = true := decide_eq_true h
    rw [if_neg h, failingStep_link]
    by_cases hfirst : s.checker.firstFailNotified = false <;>
      simp [hfails, hfirst, countStrobe, failRec_withChecker]

theorem countedAndLogged_engine :
    (countedAndLogged m f o s).engine =
      { s.engine with
        pendingStop :=
          if stepFails m f ∧ s.engine.options.stopOnFail ≠ 0 ∧
              s.engine.options.stopOnFail ≤ (s.checker.counted s.drives m f).failingSteps ∧
              s.engine.pendingStop = .none then .failLimit
          else s.engine.pendingStop } := by
  unfold countedAndLogged
  by_cases h : m ||| f = 0
  · have hfails : stepFails m f = false := decide_eq_false (not_not.2 h)
    simp [h, hfails, countStrobe]
  · have hfails : stepFails m f = true := decide_eq_true h
    rw [if_neg h, failingStep_engine]
    simp [hfails, countStrobe, Checker.counted]

end

/-! ## Before the limit (R135, R137) -/

/-- The lanes a strobe quarantines: a fault each, with its count at the threshold (R135). -/
def quarantinedLanes (m f : LaneSet) (s : State) : List Lane :=
  (List.finRange 24).filter fun n =>
    hasLane f n ∧ s.checker.faultThreshold ≤ (s.checker.counted s.drives m f).faultCounts[n]

/-- The state with all of them quarantined, before the limit is looked at. -/
def beforeLockout (m f o : LaneSet) (s : State) : State :=
  (quarantinedLanes m f s).foldl (quarantineLane o) (countedAndLogged m f o s)

/-- The records that a strobe makes: the failing step's, then those of the lanes (R131, R135). -/
def strobeRecords (m f o : LaneSet) (s : State) : List FailRec :=
  (if stepFails m f then [s.failRec (.stepFail m f) o] else [])
    ++ (quarantinedLanes m f s).map fun n => s.failRec (.quarantine n) o

theorem quarantinedLanes_ascending (m f : LaneSet) (s : State) :
    (quarantinedLanes m f s).Pairwise (· < ·) :=
  (List.pairwise_lt_finRange 24).filter _

section
variable (m f o : LaneSet) (s : State)

theorem countedAndLogged_failRec (d : FailDetail) :
    (countedAndLogged m f o s).failRec d o = s.failRec d o := by
  simp only [State.failRec, countedAndLogged_engine, Engine.depth, Engine.place, Engine.baseSlot]

/-- Logging changes neither the threshold nor the fault counts, so the lanes that qualify are known
from the counts. -/
theorem qualifying_countedAndLogged :
    (countedAndLogged m f o s).qualifying f = quarantinedLanes m f s := by
  rw [State.qualifying, countedAndLogged_checker_frame, lanesOf, List.filter_filter,
    quarantinedLanes]
  refine List.filter_congr fun n _ => ?_
  rw [Bool.and_comm, Bool.decide_and, Bool.decide_eq_true, Checker.counted]

theorem judge_eq :
    judge m f o s =
      if quarantinedLanes m f s ≠ [] ∧ (beforeLockout m f o s).checker.limitReached = true then
        enterLockout (beforeLockout m f o s)
      else beforeLockout m f o s := by
  have hjudge : judge m f o s =
      quarantineAll o ((countedAndLogged m f o s).qualifying f) (countedAndLogged m f o s) := rfl
  rw [hjudge, qualifying_countedAndLogged, quarantineAll]
  simp only [Bool.and_eq_true, Bool.not_eq_true', List.isEmpty_eq_false_iff]
  rfl

theorem beforeLockout_checker (hlog : LogLaw s) :
    (beforeLockout m f o s).checker =
      { s.checker.counted s.drives m f with
        quarantine := withLanes s.checker.quarantine (quarantinedLanes m f s)
        failLog := (s.checker.failLog ++ strobeRecords m f o s).take Config.logLimit
        logOverflow := s.checker.logOverflow || decide
          (Config.logLimit < s.checker.failLog.length + (strobeRecords m f o s).length) } := by
  have hquarantine : (countedAndLogged m f o s).checker.quarantine = s.checker.quarantine := by
    rw [countedAndLogged_checker_frame, Checker.counted]
  obtain ⟨hrecords, hoverflow⟩ :
      (s.checker.counted s.drives m f).failLog = s.checker.failLog ∧
        (s.checker.counted s.drives m f).logOverflow = s.checker.logOverflow := by
    simp only [Checker.counted, and_self]
  rw [beforeLockout, quarantineFold_checker, hquarantine, countedAndLogged_checker,
    foldl_log_withQuarantine]
  simp only [countedAndLogged_failRec]
  rw [← List.foldl_append, ← strobeRecords, foldl_log _ _ (by simpa only [hrecords] using hlog)]
  simp only [hrecords, hoverflow]

theorem beforeLockout_engine :
    (beforeLockout m f o s).engine =
      { s.engine with
        quarantineInRun := s.engine.quarantineInRun || decide (quarantinedLanes m f s ≠ [])
        pendingStop :=
          if quarantinedLanes m f s ≠ [] ∧ s.checker.quarantineAction = .stop then .quarantineStop
          else if stepFails m f ∧ s.engine.options.stopOnFail ≠ 0 ∧
              s.engine.options.stopOnFail ≤ (s.checker.counted s.drives m f).failingSteps ∧
              s.engine.pendingStop = .none then .failLimit
          else s.engine.pendingStop } := by
  have haction :
      (countedAndLogged m f o s).checker.quarantineAction = s.checker.quarantineAction := by
    rw [countedAndLogged_checker_frame, Checker.counted]
  rw [beforeLockout, quarantineFold_engine, haction, countedAndLogged_engine]

/-- The notices made before the limit: STEP_FAIL of the run's first failing step, then QUARANTINE of
each lane (R131 step 3, R135 step 3). -/
theorem beforeLockout_link :
    (beforeLockout m f o s).link = s.link.noticed
      ((if stepFails m f ∧ s.checker.firstFailNotified = false then
        [(.stepFail, (s.failRec (.stepFail m f) o).bytes)] else [])
      ++ (quarantinedLanes m f s).map (s.quarantineNotice (quarantinedLanes m f s))) := by
  have hnotice : (countedAndLogged m f o s).quarantineNotice (quarantinedLanes m f s) =
      s.quarantineNotice (quarantinedLanes m f s) := by
    funext n
    rw [State.quarantineNotice, countedAndLogged_engine, countedAndLogged_checker_frame,
      Checker.counted, State.quarantineNotice]
  rw [beforeLockout, quarantineFold_link o (quarantinedLanes_ascending m f s), hnotice,
    countedAndLogged_link, Link.noticed, Link.noticed, Link.noticed, List.foldl_append]

end

end Sys2Proof.Machine
end

section
/-! SUPPORT. LOCKOUT at a strobe's limit, what a strobe leaves of each block, and the two rows that
make one (R86, R97, R131 to R138). -/

namespace Sys2Proof.Machine

open Safety

/-! ## LOCKOUT (R97, R137) -/

/-- The notices of a LOCKOUT entered from a run with a quarantine: SWAP_DONE of a waiting swap, RUN_END
with verdict FAIL, and LOCKOUT (R94, R97). -/
theorem enterLockout_link {s : State} (h : s.engine.quarantineInRun = true) :
    (enterLockout s).link = s.link.noticed
      ((if s.rotation.swapWaiting = true then
        [(.swapDone, bytesC (s.rotation.version + 1) ++ byte s.rotation.pendingRot.count ++ [2])]
        else [])
      ++ [(.runEnd, [StopCause.lockout.code, Verdict.fail.code, s.engine.runKind.code]
            ++ bytesC s.engine.stepCounter ++ bytes2 s.checker.failingSteps),
          (.lockout, bytesL s.checker.quarantine ++ bytesC s.engine.stepCounter
            ++ bytes2 s.checker.failingSteps)]) := by
  have hend : (enterLockout s).link = (runEnd .lockout s).link.notice .lockout
      (bytesL (runEnd .lockout s).checker.quarantine
        ++ bytesC (runEnd .lockout s).engine.stepCounter
        ++ bytes2 (runEnd .lockout s).checker.failingSteps) := rfl
  rw [hend, runEnd_link, runEnd_checker, runEnd_engine, swapIfWaiting_link,
    verdictOf_fail (.inr (.inl h))]
  cases s.rotation.swapWaiting <;> rfl

/-- The engine in LOCKOUT (R94, R97). -/
theorem enterLockout_engine_eq {s : State} (h : s.engine.quarantineInRun = true) :
    (enterLockout s).engine =
      { s.engine.clearRun with lastStop := .lockout, verdict := .fail, mode := .lockout } := by
  rw [enterLockout_engine, runEnd_engine, verdictOf_fail (.inr (.inl h))]
  rfl

/-! ## The strobe as a whole -/

/-- An addition of this strobe has brought the quarantined count to the limit (R137). -/
def strobeLimited (m f : LaneSet) (s : State) : Bool :=
  decide (quarantinedLanes m f s ≠ [] ∧ s.checker.quarantineLimit ≤
    laneCount (withLanes s.checker.quarantine (quarantinedLanes m f s)))

section
variable (m f o : LaneSet) (s : State)

/-- What is left alone by the counts, the failing step and each quarantine is as it was before the
limit. -/
theorem beforeLockout_keeps {α : Type} (get : State → α)
    (hlane : ∀ t n, get (quarantineLane o t n) = get t)
    (hcount : ∀ t c, get (t.withChecker c) = get t)
    (hfail : ∀ t, get (failingStep m f o t) = get t) : get (beforeLockout m f o s) = get s :=
  (quarantineFold_keeps get o hlane _ _).trans (countedAndLogged_keeps m f o s get hcount hfail)

theorem beforeLockout_timing : (beforeLockout m f o s).timing = s.timing :=
  beforeLockout_keeps m f o s State.timing (quarantineLane_timing o) State.withChecker_timing
    (failingStep_timing m f o)

theorem beforeLockout_rotation : (beforeLockout m f o s).rotation = s.rotation :=
  beforeLockout_keeps m f o s State.rotation (quarantineLane_rotation o) State.withChecker_rotation
    (failingStep_rotation m f o)

theorem beforeLockout_output : (beforeLockout m f o s).output = s.output :=
  beforeLockout_keeps m f o s State.output (quarantineLane_output o) State.withChecker_output
    (failingStep_output m f o)

theorem beforeLockout_survey : (beforeLockout m f o s).survey = s.survey :=
  beforeLockout_keeps m f o s State.survey (quarantineLane_survey o) State.withChecker_survey
    (failingStep_survey m f o)

variable {m f o s} (hlog : LogLaw s)
include hlog

theorem limited_iff :
    strobeLimited m f s = true ↔
      quarantinedLanes m f s ≠ [] ∧ (beforeLockout m f o s).checker.limitReached = true := by
  rw [beforeLockout_checker m f o s hlog, strobeLimited, decide_eq_true_iff, Checker.limitReached,
    Checker.quarantinedCount, decide_eq_true_iff, Checker.counted]

theorem judge_of_limited (h : strobeLimited m f s = true) :
    judge m f o s = enterLockout (beforeLockout m f o s) := by
  rw [judge_eq, if_pos ((limited_iff hlog).1 h)]

theorem judge_of_not_limited (h : strobeLimited m f s = false) :
    judge m f o s = beforeLockout m f o s := by
  rw [judge_eq, if_neg (mt (limited_iff hlog).2 (by simp [h]))]

theorem judge_checker :
    (judge m f o s).checker =
      { s.checker.counted s.drives m f with
        quarantine := withLanes s.checker.quarantine (quarantinedLanes m f s)
        failLog := (s.checker.failLog ++ strobeRecords m f o s).take Config.logLimit
        logOverflow := s.checker.logOverflow || decide
          (Config.logLimit < s.checker.failLog.length + (strobeRecords m f o s).length) } := by
  rw [← beforeLockout_checker m f o s hlog]
  cases h : strobeLimited m f s with
  | false => rw [judge_of_not_limited hlog h]
  | true => rw [judge_of_limited hlog h, enterLockout_checker, runEnd_checker]

theorem judge_output : (judge m f o s).output = s.output := by
  rw [← beforeLockout_output m f o s]
  cases h : strobeLimited m f s with
  | false => rw [judge_of_not_limited hlog h]
  | true =>
    rw [judge_of_limited hlog h, enterLockout_output, runEnd_output]
    rfl

/-- Where the limit is reached a lane has been quarantined in the run (R135 step 4). -/
theorem quarantineInRun_of_limited (h : strobeLimited m f s = true) :
    (beforeLockout m f o s).engine.quarantineInRun = true := by
  rw [beforeLockout_engine]
  simp [((limited_iff (o := o) hlog).1 h).1]

/-- The notices of a strobe, in their order (R97, R131, R135). -/
theorem judge_link :
    (judge m f o s).link = s.link.noticed
      ((if stepFails m f ∧ s.checker.firstFailNotified = false then
          [(.stepFail, (s.failRec (.stepFail m f) o).bytes)] else [])
      ++ (quarantinedLanes m f s).map (s.quarantineNotice (quarantinedLanes m f s))
      ++ (if strobeLimited m f s ∧ s.rotation.swapWaiting = true then
          [(.swapDone, bytesC (s.rotation.version + 1) ++ byte s.rotation.pendingRot.count ++ [2])]
          else [])
      ++ (if strobeLimited m f s then
          [(.runEnd, [StopCause.lockout.code, Verdict.fail.code, s.engine.runKind.code]
            ++ bytesC s.engine.stepCounter ++ bytes2 (judge m f o s).checker.failingSteps),
          (.lockout, bytesL (judge m f o s).checker.quarantine ++ bytesC s.engine.stepCounter
            ++ bytes2 (judge m f o s).checker.failingSteps)] else [])) := by
  cases h : strobeLimited m f s with
  | false => simp [judge_of_not_limited hlog h, beforeLockout_link]
  | true =>
    rw [judge_checker hlog, ← beforeLockout_checker m f o s hlog, judge_of_limited hlog h,
      enterLockout_link (quarantineInRun_of_limited hlog h), beforeLockout_link,
      beforeLockout_rotation, beforeLockout_engine]
    simp [Link.noticed]

/-- The engine after a strobe that reaches the limit (R94, R97). -/
theorem judge_engine_limited (h : strobeLimited m f s = true) :
    (judge m f o s).engine =
      { s.engine.clearRun with
        quarantineInRun := true
        lastStop := .lockout
        verdict := .fail
        mode := .lockout } := by
  have hflag := quarantineInRun_of_limited (o := o) hlog h
  rw [judge_of_limited hlog h, enterLockout_engine_eq hflag, ← hflag, beforeLockout_engine]
  rfl

/-! ## What a strobe leaves, block by block -/

theorem judge_failingSteps :
    (judge m f o s).checker.failingSteps =
      if stepFails m f then min (s.checker.failingSteps + 1) 65535
      else s.checker.failingSteps := by
  simp only [judge_checker hlog, Checker.counted, Config.maxFailing]

theorem judge_firstFailNotified :
    (judge m f o s).checker.firstFailNotified =
      (s.checker.firstFailNotified || stepFails m f) := by
  simp only [judge_checker hlog, Checker.counted]

theorem judge_hasLane_quarantine (n : Lane) :
    hasLane (judge m f o s).checker.quarantine n =
      (hasLane s.checker.quarantine n || decide (n ∈ quarantinedLanes m f s)) := by
  rw [judge_checker hlog, hasLane_withLanes]

theorem judge_settings :
    (judge m f o s).checker.faultThreshold = s.checker.faultThreshold ∧
      (judge m f o s).checker.quarantineLimit = s.checker.quarantineLimit ∧
      (judge m f o s).checker.quarantineAction = s.checker.quarantineAction := by
  simp only [judge_checker hlog, Checker.counted, and_self]

/-- The lanes quarantined, by the fault counts as the strobe leaves them (R135). -/
theorem quarantinedLanes_eq :
    quarantinedLanes m f s = (List.finRange 24).filter fun n =>
      hasLane f n ∧ s.checker.faultThreshold ≤ (judge m f o s).checker.faultCounts[n] := by
  simp only [judge_checker hlog, quarantinedLanes]

/-- LOCKOUT, by the quarantine set as the strobe leaves it (R137). -/
theorem strobeLimited_eq :
    strobeLimited m f s = decide (quarantinedLanes m f s ≠ [] ∧
      s.checker.quarantineLimit ≤ laneCount (judge m f o s).checker.quarantine) := by
  simp only [judge_checker hlog, strobeLimited]

theorem judge_timing :
    (judge m f o s).timing =
      if strobeLimited m f s then s.timing.stopPacer.stopWait else s.timing := by
  cases h : strobeLimited m f s with
  | false => rw [judge_of_not_limited hlog h, beforeLockout_timing, if_neg Bool.false_ne_true]
  | true =>
    rw [judge_of_limited hlog h, enterLockout_timing, runEnd_timing, beforeLockout_timing,
      if_pos rfl]

theorem judge_survey :
    (judge m f o s).survey =
      if strobeLimited m f s then { s.survey with position := none } else s.survey := by
  cases h : strobeLimited m f s with
  | false => rw [judge_of_not_limited hlog h, beforeLockout_survey, if_neg Bool.false_ne_true]
  | true =>
    rw [judge_of_limited hlog h, enterLockout_survey, runEnd_survey, beforeLockout_survey,
      if_pos rfl]

/-- A strobe's judgement leaves the survey unit alone but for the position, which a LOCKOUT clears. -/
theorem judge_survey_frame :
    (judge m f o s).survey = { s.survey with position := (judge m f o s).survey.position } := by
  rw [judge_survey hlog]
  split <;> rfl

theorem judge_rotation :
    (judge m f o s).rotation =
      if strobeLimited m f s then (swapIfWaiting .runEnd s).rotation else s.rotation := by
  cases h : strobeLimited m f s with
  | false => rw [judge_of_not_limited hlog h, beforeLockout_rotation, if_neg Bool.false_ne_true]
  | true =>
    rw [judge_of_limited hlog h, enterLockout_rotation, runEnd_rotation, swapIfWaiting_rotation,
      swapIfWaiting_rotation, beforeLockout_rotation, if_pos rfl]

theorem judge_engine_not_limited (h : strobeLimited m f s = false) :
    (judge m f o s).engine =
      { s.engine with
        quarantineInRun := s.engine.quarantineInRun || decide (quarantinedLanes m f s ≠ [])
        pendingStop :=
          if quarantinedLanes m f s ≠ [] ∧ s.checker.quarantineAction = .stop then .quarantineStop
          else if stepFails m f ∧ s.engine.options.stopOnFail ≠ 0 ∧
              s.engine.options.stopOnFail ≤ (judge m f o s).checker.failingSteps ∧
              s.engine.pendingStop = .none then .failLimit
          else s.engine.pendingStop } := by
  rw [judge_checker hlog, judge_of_not_limited hlog h, beforeLockout_engine]

end

/-! ## What a strobe finds (R129, R130) -/

theorem mismatch_iff (s : State) (a : Assembly) (v : VectorRec) (n : Lane) :
    s.mismatch a (some v) n = true ↔ LaneMismatch s a v n := by
  cases he : v.expect[n] <;> simp [State.mismatch, LaneMismatch, Expect.logical?, he, and_assoc]

theorem faulty_iff (s : State) (a : Assembly) (n : Lane) :
    s.faulty a n = true ↔ LaneFault s a n := by
  cases hl : s.output.applied[n] <;>
    simp [State.faulty, State.drives, Level.logical?, hl, and_assoc]

theorem mismatchSet_eq {s : State} {a : Assembly} {v : VectorRec} {m : LaneSet}
    (h : ∀ n, hasLane m n = true ↔ LaneMismatch s a v n) : s.mismatchSet a (some v) = m :=
  laneSet_ext fun n => by
    rw [State.mismatchSet, hasLane_lanesWhere, Bool.eq_iff_iff, mismatch_iff, h]

/-- A survey step has no mismatch (R138). -/
theorem mismatchSet_none (s : State) (a : Assembly) : s.mismatchSet a none = 0 :=
  laneSet_ext fun n => by
    rw [State.mismatchSet, hasLane_lanesWhere, hasLane_zero]
    rfl

theorem faultSet_eq {s : State} {a : Assembly} {f : LaneSet}
    (h : ∀ n, hasLane f n = true ↔ LaneFault s a n) : s.faultSet a = f :=
  laneSet_ext fun n => by
    rw [State.faultSet, hasLane_lanesWhere, Bool.eq_iff_iff, faulty_iff, h]

theorem senses_eq {s : State} {a : Assembly} {o : LaneSet} (h : ∀ n, hasLane o n = s.sense a n) :
    s.senses a = o :=
  laneSet_ext fun n => by rw [State.senses, hasLane_lanesWhere, h]

/-! ## The rows STROBE and SURVEY_STROBE (R86, R151) -/

/-- The state whose lanes a strobe judges: the pacer at the strobe, and a survey's net map with the
entry written. -/
def atStrobe (s : State) (map : Lanes (Option NetEntry)) : State :=
  { s with timing := s.timing.toStrobe, survey := { s.survey with netMap := map } }

/-- The lanes at the strobe are those of the state before it. -/
theorem checkStrobe_atStrobe {s : State} {a : Assembly} {r : Option VectorRec} {m f o : LaneSet}
    (hm : s.mismatchSet a r = m) (hf : s.faultSet a = f) (ho : s.senses a = o)
    (map : Lanes (Option NetEntry)) :
    checkStrobe a r (atStrobe s map) = judge m f o (atStrobe s map) := by
  rw [← hm, ← hf, ← ho]
  rfl

theorem writeEntry_reachStrobe (a : Assembly) (s : State) :
    ∃ map, writeEntry a (reachStrobe s) = atStrobe s map := by
  unfold writeEntry
  split
  · exact ⟨_, rfl⟩
  · exact ⟨s.survey.netMap, rfl⟩

theorem execStrobe_due {s : State} (h : StrobeDue s .rotation) (a : Assembly) :
    exec (.strobe a) s =
      .next (checkStrobe a s.engine.stepRecord (atStrobe s s.survey.netMap)) :=
  congrArg Host.Outcome.next (if_pos ((strobes_iff_strobeDue s .rotation).2 h))

theorem execStrobe_not_due {s : State} (h : ¬ StrobeDue s .rotation) (a : Assembly) :
    exec (.strobe a) s = .next s :=
  congrArg Host.Outcome.next (if_neg (mt (strobes_iff_strobeDue s .rotation).1 h))

theorem execSurveyStrobe_due {s : State} (h : StrobeDue s .survey) (a : Assembly) :
    exec (.surveyStrobe a) s = .next (checkStrobe a none (writeEntry a (reachStrobe s))) :=
  congrArg Host.Outcome.next (if_pos ((strobes_iff_strobeDue s .survey).2 h))

theorem execSurveyStrobe_not_due {s : State} (h : ¬ StrobeDue s .survey) (a : Assembly) :
    exec (.surveyStrobe a) s = .next s :=
  congrArg Host.Outcome.next (if_neg (mt (strobes_iff_strobeDue s .survey).1 h))

/-- Settles O46: a strobe is the judgement of the state with the pacer at the strobe, whose blocks are
those of the stages one after another; its lanes, records and LOCKOUT are the statement's. -/
theorem strobeLogsQuarantinesAndLocksOut : Obligations.StrobeLogsQuarantinesAndLocksOut := by
  unfold Obligations.StrobeLogsQuarantinesAndLocksOut
  intro a s mismatches faults observed hlog hfaults hobserved judged
  have hf := faultSet_eq hfaults
  have ho := senses_eq hobserved
  have hlaw (map : Lanes (Option NetEntry)) : LogLaw (atStrobe s map) := hlog
  have hjudged (map : Lanes (Option NetEntry)) :
      judged (judge mismatches faults observed (atStrobe s map)) := by
    have hu := hlaw map
    unfold judged
    intro failing record lanes records limited added notices
    have hlanes : lanes = quarantinedLanes mismatches faults (atStrobe s map) :=
      (quarantinedLanes_eq hu).symm
    have hlimited : limited = strobeLimited mismatches faults (atStrobe s map) := by
      simp only [limited, hlanes]
      exact (strobeLimited_eq hu).symm
    have hrecords : records = strobeRecords mismatches faults observed (atStrobe s map) := by
      simp only [records, hlanes]
      rfl
    obtain ⟨hthreshold, hlimit, haction⟩ := judge_settings (m := mismatches) (f := faults)
      (o := observed) hu
    refine ⟨?_, judge_failingSteps hu, judge_firstFailNotified hu, ?_, ?_, fun n => ?_, hthreshold,
      hlimit, haction, judge_store _ _ _ _, judge_trigger _ _ _ _, judge_output hu,
      judge_pending _ _ _ _, ?_, ?_, fun h => ?_, fun h => ?_⟩
    · simp only [notices, added, hlanes, hlimited]
      exact judge_link hu
    · rw [hrecords, judge_checker hu]
      rfl
    · rw [hrecords, judge_checker hu]
      rfl
    · rw [hlanes]
      exact judge_hasLane_quarantine hu n
    · rw [judge_timing hu]
      split <;> rfl
    · rw [judge_survey_frame hu]
      rfl
    · rw [hlimited] at h
      rw [judge_engine_limited hu h, judge_timing hu, judge_survey hu, judge_rotation hu, if_pos h,
        if_pos h, if_pos h, swapIfWaiting_rotation]
      exact ⟨rfl, rfl, rfl, rfl, rfl, rfl, rfl, rfl, rfl, rfl, rfl, rfl, rfl, rfl, rfl⟩
    · rw [hlimited] at h
      have hno : ¬ strobeLimited mismatches faults (atStrobe s map) = true := by simp [h]
      rw [judge_engine_not_limited hu h, judge_timing hu, judge_survey hu, judge_rotation hu,
        if_neg hno, if_neg hno, if_neg hno, hlanes]
      exact ⟨rfl, rfl, rfl, rfl⟩
  refine ⟨fun v hdue hrecord hmis => ?_, fun hdue hzero => ?_, fun h => execStrobe_not_due h a,
    fun h => execSurveyStrobe_not_due h a⟩
  · refine ⟨_, execStrobe_due hdue a, ?_⟩
    rw [hrecord, checkStrobe_atStrobe (mismatchSet_eq hmis) hf ho]
    refine ⟨hjudged _, ?_⟩
    rw [judge_survey_frame (hlaw _)]
    rfl
  · obtain ⟨map, hmap⟩ := writeEntry_reachStrobe a s
    refine ⟨_, execSurveyStrobe_due hdue a, ?_⟩
    rw [hmap, checkStrobe_atStrobe (mismatchSet_none s a) hf ho, ← hzero]
    exact hjudged map

end Sys2Proof.Machine
end

section
/-! SUPPORT. A splice by request and by an edge: what its checks refuse, and what an accepted one
makes of the engine state it meets (R103, R104, R107, R108, R113). -/

namespace Sys2Proof.Machine

open Safety

/-! ## The checks (R103) -/

theorem spliceGate_lockout {s : State} (hm : s.engine.mode = .lockout) :
    s.spliceGate = some .locked := if_pos hm

theorem spliceGate_live {s : State} (hlive : s.engine.rotationLive = true) :
    s.spliceGate = none := by
  rw [State.spliceGate, if_neg (ne_lockout_of_isLive (live_of_rotationLive hlive)),
    if_neg (by simp [hlive])]

/-- The last three checks in their order: the pattern, the pending slot, the stack (R103). -/
theorem spliceRoom_eq (s : State) (x : Splice) :
    s.spliceRoom x =
      if s.store.content x.pattern = .undefined then some .notDefined
      else if s.engine.pendingSplice.isSome then some .busy
      else if 4 ≤ s.engine.stack.length then some .stackFull
      else none := by
  have hdefined : (!(s.store.content x.pattern).isDefined) = true ↔
      s.store.content x.pattern = .undefined := by
    rw [Bool.not_eq_true', ← Bool.not_eq_true, isDefined_iff, not_not]
  simp only [State.spliceRoom, hdefined]
  rfl

/-! ## An accepted splice, by the engine state (R104, R107, R108) -/

/-- While a step is in progress a splice waits in the pending slot (R104). -/
theorem acceptSplice_pends {s : State}
    (hm : s.engine.mode = .running ∨ s.engine.mode = .held .running) (x : Splice) :
    acceptSplice x s = pendSplice x s := by
  rcases hm with hm | hm <;> exact if_neg (by rw [hm]; decide)

theorem pushedAtOnce_of_live {s : State} {g : RunFrame} (hlive : s.engine.live = some g)
    (m : EngineState) (r : Option VectorRec) (x : Splice) :
    pushedAtOnce m r x s =
      { s with
        timing := s.timing.stopWait
        engine :=
          { s.engine with
            live := some x.frame
            stack := ⟨g, x.skip⟩ :: s.engine.stack
            mode := m
            stepRecord := r } } := by
  rw [pushedAtOnce, pushed_of_live hlive]

/-- In WAITING the splice's first step start is made at once (R107). -/
theorem acceptSplice_waiting {s : State} {g : RunFrame} (hm : s.engine.mode = .waiting)
    (hlive : s.engine.live = some g) (x : Splice) :
    acceptSplice x s = stepStart (pushedAtOnce .running s.engine.stepRecord x s) := by
  have hnow : s.engine.mode.takesAtOnce = true := by rw [hm]; rfl
  rw [acceptSplice, if_pos hnow, if_pos hm, pushedAtOnce_of_live hlive, spliceInWaiting,
    pushed_of_live hlive]

/-- In HELD with no step in progress no step starts, and no step record stays (R108; log 14). -/
theorem acceptSplice_held {s : State}
    (hm : s.engine.mode = .held .waiting ∨ s.engine.mode = .held .boundary) (x : Splice) :
    acceptSplice x s = pushedAtOnce (.held .boundary) none x s := by
  have hnow : s.engine.mode.takesAtOnce = true := by rcases hm with hm | hm <;> rw [hm] <;> rfl
  have hheld : s.engine.mode ≠ .waiting := by rcases hm with hm | hm <;> simp [hm]
  rw [acceptSplice, if_pos hnow, if_neg hheld]
  rfl

theorem stepStart_depth (s : State) : (stepStart s).engine.depth = s.engine.depth := by
  obtain ⟨m, v, b, hengine⟩ := stepStart_engine s
  rw [hengine]
  rfl

/-- A splice taken at once puts one frame more on the stack (R105). -/
theorem pushedAtOnce_depth {s : State} {g : RunFrame} (hlive : s.engine.live = some g)
    (m : EngineState) (r : Option VectorRec) (x : Splice) :
    (pushedAtOnce m r x s).engine.depth = s.engine.stack.length + 1 := by
  rw [pushedAtOnce_of_live hlive]
  rfl

/-! ## SPLICE (R103, R104) -/

theorem splice_range {s : State} {p t : Byte} (hlive : s.engine.rotationLive = true)
    (h : 31 < p.toNat ∨ 3 < t.toNat) (k : Byte) : splice p t k s = refuse .range s := by
  simp only [splice, spliceGate_live hlive]
  rcases h with h | h
  · rw [patternId_none h]
  · rw [timingId_none h]
    cases PatternId.ofByte? p <;> rfl

/-- The bytes of a splice's arguments. -/
structure SpliceBytes (x : Splice) (p t k : Byte) : Prop where
  pattern : p.toNat = x.pattern.val
  timing  : t.toNat = x.timing.val
  skip    : k.toNat = x.skip

theorem SpliceBytes.splice_eq {x : Splice} {p t k : Byte} (hx : SpliceBytes x p t k) :
    (⟨x.pattern, x.timing, k.toNat⟩ : Splice) = x := by rw [hx.skip]

/-- Past RANGE, SPLICE is refused by the first of its last checks that fails (R103). -/
theorem splice_refused {s : State} {x : Splice} {p t k : Byte} {st : Status}
    (hx : SpliceBytes x p t k) (hlive : s.engine.rotationLive = true)
    (hroom : s.spliceRoom x = some st) : splice p t k s = refuse st s := by
  simp only [splice, spliceGate_live hlive, patternId_some hx.pattern, timingId_some hx.timing,
    hx.splice_eq, hroom]

/-- SPLICE is accepted where none of its checks fails (R103, R104). -/
theorem splice_accepted {s : State} {x : Splice} {p t k : Byte}
    (hx : SpliceBytes x p t k) (hlive : s.engine.rotationLive = true)
    (hroom : s.spliceRoom x = none) :
    splice p t k s =
      accept (acceptSplice x s)
        (spliceResults s.engine.mode.takesAtOnce (acceptSplice x s)) := by
  simp only [splice, spliceGate_live hlive, patternId_some hx.pattern, timingId_some hx.timing,
    hx.splice_eq, hroom]

/-! ## SPLICE_TRIGGER (R113) -/

theorem execSpliceTrigger_of_edge {s : State} {input : TrigInput} {x : Splice}
    (h : Edge s input (.splice x)) :
    exec (.spliceTrigger input) s = .next (spliceAction input x (s.levelChanged input)) := by
  have hdelivery : s.delivery input = some (.splice x) := by
    rw [State.delivery, if_pos h.operating, TrigCfg.delivers, if_pos h.admitted, h.action]
  change execSpliceTrigger input s = _
  rw [execSpliceTrigger, hdelivery]

theorem spliceRefusal_of_gate {s : State} {st : Status} (h : s.spliceGate = some st) (x : Splice) :
    s.spliceRefusal x = some st := by
  simp only [State.spliceRefusal, h]

theorem spliceRefusal_live {s : State} (hlive : s.engine.rotationLive = true) (x : Splice) :
    s.spliceRefusal x = s.spliceRoom x := by
  simp only [State.spliceRefusal, spliceGate_live hlive]

theorem spliceAction_refused {s : State} {x : Splice} {st : Status}
    (h : s.spliceRefusal x = some st) (input : TrigInput) :
    spliceAction input x s = s.notice .spliceRefused (s.refusedPayload input st x) := by
  simp only [spliceAction, h]

theorem spliceAction_accepted {s : State} {x : Splice} (h : s.spliceRefusal x = none)
    (input : TrigInput) : spliceAction input x s = acceptSplice x s := by
  simp only [spliceAction, h]

theorem trigInput_code_eq (input : TrigInput) :
    TrigInput.code input = if input = .trgA then 0 else 1 := by
  cases input <;> rfl

/-- What SPLICE_REFUSED carries, byte by byte (R178). -/
theorem refusedPayload_eq (s : State) (input : TrigInput) (st : Status) (x : Splice) :
    s.refusedPayload input st x =
      [if input = .trgA then 0 else 1, st.code] ++ byte x.pattern.val ++ byte x.timing.val
        ++ byte x.skip ++ [s.engine.mode.code] ++ bytesC s.engine.stepCounter := by
  rw [State.refusedPayload, Splice.bytes, trigInput_code_eq]
  simp only [List.append_assoc]

/-- Settles O40: the request and the edge meet the same checks, and an accepted splice is the same
event by either. -/
theorem spliceIsRefusedPendingOrTaken : Obligations.SpliceIsRefusedPendingOrTaken := by
  unfold Obligations.SpliceIsRefusedPendingOrTaken
  intro x s room pend push
  have hchecks : s.spliceRoom x = room := spliceRoom_eq s x
  have hbody {r : Req} {p t k : Byte} (hpayload : r.payload = [p, t, k]) :
      serveSplice (r.frame Kind.splice).payload s = splice p t k s := by
    rw [Req.frame, hpayload, serveSplice]
  refine ⟨fun r p t k hpayload hs hlive hrange => ?_,
    fun r p t k hpayload hs hlive hp ht hk => ?_, ?_⟩
  · exact exec_of_refuse rfl rfl rfl hs ((hbody hpayload).trans (splice_range hlive hrange k))
  · have hx : SpliceBytes x p t k := ⟨hp, ht, hk⟩
    refine ⟨fun st hst => ?_, fun hnone => ?_⟩
    · exact exec_of_refuse rfl rfl rfl hs
        ((hbody hpayload).trans (splice_refused hx hlive (hchecks.trans hst)))
    have hexec : exec (.splice r) s = .next (replied (acceptSplice x s) (r.frame Kind.splice) .ok
        (spliceResults s.engine.mode.takesAtOnce (acceptSplice x s))) :=
      exec_of_accept rfl rfl rfl hs
        ((hbody hpayload).trans (splice_accepted hx hlive (hchecks.trans hnone)))
    rw [hexec, spliceResults]
    refine ⟨fun hm => ?_, fun g hg => ⟨fun hm => ?_, fun hm => ?_⟩⟩
    · rw [acceptSplice_pends hm]
      rcases hm with hm | hm <;> rw [hm] <;> rfl
    · rw [acceptSplice_waiting hm hg, stepStart_depth, pushedAtOnce_depth hg,
        pushedAtOnce_of_live hg, hm]
      rfl
    · rw [acceptSplice_held hm, pushedAtOnce_depth hg, pushedAtOnce_of_live hg]
      rcases hm with hm | hm <;> rw [hm] <;> rfl
  · intro input hedge t refused
    have hrow : exec (.spliceTrigger input) s = .next (spliceAction input x t) :=
      execSpliceTrigger_of_edge hedge
    have hrefused {st : Status} (h : t.spliceRefusal x = some st) : refused st := by
      refine hrow.trans ?_
      rw [spliceAction_refused h, refusedPayload_eq]
      rfl
    refine ⟨fun hm => ?_, fun hm hdead => ?_, fun hlive => ?_⟩
    · exact hrefused (spliceRefusal_of_gate (spliceGate_lockout hm) x)
    · exact hrefused (spliceRefusal_of_gate (spliceGate_state hm hdead) x)
    have hrefusal : t.spliceRefusal x = room :=
      (spliceRefusal_live (s := t) hlive x).trans hchecks
    refine ⟨fun st hst => hrefused (hrefusal.trans hst), fun hnone => ?_⟩
    rw [hrow, spliceAction_accepted (hrefusal.trans hnone)]
    refine ⟨fun hm => ?_, fun g hg => ⟨fun hm => ?_, fun hm => ?_⟩⟩
    · rw [acceptSplice_pends (s := t) hm]
      rfl
    · rw [acceptSplice_waiting (s := t) hm hg, pushedAtOnce_of_live (s := t) hg]
      rfl
    · rw [acceptSplice_held (s := t) hm, pushedAtOnce_of_live (s := t) hg]
      rfl

end Sys2Proof.Machine
end

section
/-! SUPPORT. SUSPEND, the four snapshots as they are written, and what a suspend saves (R116 to
R119). -/

namespace Sys2Proof.Machine

open Safety

/-! ## Snapshot numbers (R116) -/

theorem snapshotId_none {b : Byte} (h : 3 < b.toNat) : SnapshotId.ofByte? b = none :=
  dif_neg (by omega)

theorem snapshotId_some {b : Byte} {n : SnapshotId} (h : b.toNat = n.val) :
    SnapshotId.ofByte? b = some n := by
  have hlt : b.toNat < 4 := h ▸ n.isLt
  rw [SnapshotId.ofByte?, dif_pos hlt]
  exact congrArg some (Fin.ext h)

/-- The byte that reads as a number writes it (R177). -/
theorem byte_of_toNat {b : Byte} {n : Nat} (h : b.toNat = n) : byte n = [b] := by
  rw [← h, byte_toNat]

@[simp] theorem putSnapshot_same (s : State) (n : SnapshotId) (x : Snapshot) :
    (s.putSnapshot n x).engine.snapshots[n] = x := by
  simp [State.putSnapshot]

/-! ## SUSPEND (R117 to R119) -/

section
variable {s : State} {snapshot : Byte} (hlive : s.engine.rotationLive = true)
include hlive

theorem suspend_range (h : 3 < snapshot.toNat) : suspend snapshot s = refuse .range s := by
  rw [suspend, unlessLocked_of_ne (ne_lockout_of_isLive (live_of_rotationLive hlive)),
    if_neg (by simp [hlive]), snapshotId_none h]

variable {n : SnapshotId} (hn : snapshot.toNat = n.val)
include hn

theorem suspend_exists (h : s.engine.snapshots[n].state ≠ .empty) :
    suspend snapshot s = refuse .existsAlready s := by
  rw [suspend, unlessLocked_of_ne (ne_lockout_of_isLive (live_of_rotationLive hlive)),
    if_neg (by simp [hlive]), snapshotId_some hn]
  exact if_pos h

theorem suspend_accept (h : s.engine.snapshots[n].state = .empty) :
    suspend snapshot s =
      accept (runEnd .suspended (s.putSnapshot n s.savedRun))
        (suspendResults n s.savedRun s.rotation.swapWaiting) := by
  rw [suspend, unlessLocked_of_ne (ne_lockout_of_isLive (live_of_rotationLive hlive)),
    if_neg (by simp [hlive]), snapshotId_some hn]
  exact if_neg (not_not.2 h)

end

/-- Settles O41: SUSPEND's checks one after another; the snapshot it saves is `State.savedRun`,
whose frames are the run's, base first. -/
theorem suspendSavesTheRun : Obligations.SuspendSavesTheRun := by
  unfold Obligations.SuspendSavesTheRun
  intro r s snapshot hpayload hs hlive
  have hbody : serveSuspend (r.frame Kind.suspend).payload s = suspend snapshot s := by
    rw [Req.frame, hpayload, serveSuspend]
  refine ⟨fun hrange => exec_of_refuse rfl rfl rfl hs (hbody.trans (suspend_range hlive hrange)),
    fun n hn => ⟨fun hfull =>
      exec_of_refuse rfl rfl rfl hs (hbody.trans (suspend_exists hlive hn hfull)), ?_⟩⟩
  intro f hempty hf kept
  have hkept : s.snapFrame = kept := by
    funext g
    simp only [kept, State.snapFrame]
    cases g.frame.base <;> rfl
  have hsaved : s.savedRun =
      { state := .suspended
        options := s.engine.options
        version := s.rotation.version
        stepCounter := s.engine.stepCounter
        failingSteps := s.checker.failingSteps
        frames := (s.engine.stack.reverse ++ [(⟨f, 0⟩ : SavedFrame)]).map kept } := by
    rw [State.savedRun, frames_of_live hf, hkept]
  have hresults : suspendResults n s.savedRun s.rotation.swapWaiting =
      [snapshot] ++ byte (s.engine.stack.length + 1) ++ bytesC s.rotation.version
        ++ bytesC s.engine.stepCounter ++ bytes2 s.checker.failingSteps
        ++ [if s.rotation.swapWaiting then 1 else 0] := by
    rw [suspendResults, byte_of_toNat hn, hsaved]
    simp only [List.length_map, List.length_append, List.length_reverse, List.length_singleton]
    rfl
  rw [← hresults, ← hsaved]
  exact exec_of_accept rfl rfl rfl hs (hbody.trans (suspend_accept hlive hn hempty))

end Sys2Proof.Machine
end

section
/-! SUPPORT. RESUME: what each of its checks finds of a snapshot's frames, and the run it starts (R120
to R122); a run suspended and resumed at once. -/

namespace Sys2Proof.Machine

open Safety

/-! ## The checks of a frame (R120, R121) -/

theorem staleFrame_iff (s : State) (f : SnapFrame) :
    s.staleFrame f = true ↔
      s.store.content f.pattern = .undefined ∨
        s.store.directory[f.pattern].generation ≠ f.generation := by
  rw [State.staleFrame, Bool.or_eq_true, Bool.not_eq_true', ← Bool.not_eq_true, isDefined_iff,
    not_not, bne_iff_ne]

/-- A BASE frame is consistent on the slot that its slot byte names (R121). -/
theorem baseConsistent_iff (s : State) (f : SnapFrame) :
    s.baseConsistent f = true ↔
      f.pos.index < (s.store.content f.pattern).length ∧ ∃ i : SlotIndex, f.slot.toNat = i.val ∧
        i.val < s.rotation.active.count ∧ f.pattern = s.rotation.active.slots[i].pattern ∧
        1 ≤ f.passesLeft.toNat ∧ f.passesLeft.toNat ≤ s.rotation.active.slots[i].dwell ∧
        suited s.rotation.active.slots[i].direction (s.store.content f.pattern).length f.pos
          = true := by
  by_cases hslot : f.slot.toNat < 16
  · have hi : SlotIndex.ofByte? f.slot = some ⟨f.slot.toNat, hslot⟩ := slotIndex_some rfl
    simp only [State.baseConsistent, hi, Bool.and_eq_true, decide_eq_true_eq]
    constructor
    · rintro ⟨⟨⟨⟨⟨hcount, hpat⟩, hone⟩, hdwell⟩, hindex⟩, hsuited⟩
      exact ⟨hindex, _, rfl, hcount, hpat, hone, hdwell, hsuited⟩
    · rintro ⟨hindex, i, hi, hcount, hpat, hone, hdwell, hsuited⟩
      obtain rfl : i = ⟨f.slot.toNat, hslot⟩ := Fin.ext hi.symm
      exact ⟨⟨⟨⟨⟨hcount, hpat⟩, hone⟩, hdwell⟩, hindex⟩, hsuited⟩
  · have hi : SlotIndex.ofByte? f.slot = none := slotIndex_none (by omega)
    simp only [State.baseConsistent, hi, Bool.false_eq_true, false_iff]
    rintro ⟨_, i, hslot', _⟩
    exact hslot (hslot' ▸ i.isLt)

/-- The conditions of a frame, those of its kind among them; the last frame's skip is not read
(R121). -/
theorem consistent_iff (s : State) (f : SnapFrame) (last : Bool) :
    s.consistent f last = true ↔
      f.pos.index < (s.store.content f.pattern).length ∧ (last = false → f.skip ≤ 255) ∧
        (f.kind = .splice → f.pos.phase = .ascending) ∧
        (f.kind = .base → ∃ i : SlotIndex, f.slot.toNat = i.val ∧
          i.val < s.rotation.active.count ∧ f.pattern = s.rotation.active.slots[i].pattern ∧
          1 ≤ f.passesLeft.toNat ∧ f.passesLeft.toNat ≤ s.rotation.active.slots[i].dwell ∧
          suited s.rotation.active.slots[i].direction (s.store.content f.pattern).length f.pos
            = true) := by
  have hskip : (last || decide (f.skip ≤ 255)) = true ↔ (last = false → f.skip ≤ 255) := by
    cases last <;> simp
  rw [State.consistent, Bool.and_eq_true, hskip]
  cases hk : f.kind with
  | base =>
    simp only [baseConsistent_iff, reduceCtorEq, false_implies, forall_const, true_and, and_assoc]
    exact and_congr_right fun _ => and_comm
  | splice =>
    simp only [State.spliceConsistent, Bool.and_eq_true, decide_eq_true_eq, reduceCtorEq,
      false_implies, forall_const, and_true, and_assoc]
    exact and_congr_right fun _ => and_comm

/-! ## The lowest frame that fails a check (R120) -/

/-- No frame is stale: check 6 finds none. -/
theorem staleAt_none {s : State} {fs : List SnapFrame} (h : ∀ f ∈ fs, ¬ s.staleFrame f = true)
    (j : Nat) : s.staleAt j fs = none := by
  induction fs generalizing j with
  | nil => rfl
  | cons f fs ih =>
    rw [State.staleAt, if_neg (h f List.mem_cons_self)]
    exact ih (fun g hg => h g (List.mem_cons_of_mem f hg)) _

/-- A stale frame with none below it is the one that check 6 finds. -/
theorem staleAt_some {s : State} {fs : List SnapFrame} {k : Nat} {f : SnapFrame}
    (hk : fs[k]? = some f) (hf : s.staleFrame f = true)
    (hlow : ∀ i g, i < k → fs[i]? = some g → ¬ s.staleFrame g = true) (j : Nat) :
    s.staleAt j fs = some (j + k, f) := by
  induction fs generalizing j k with
  | nil => cases hk
  | cons g fs ih =>
    cases k with
    | zero =>
      obtain rfl : g = f := Option.some.inj hk
      exact if_pos hf
    | succ k =>
      rw [State.staleAt, if_neg (hlow 0 g (Nat.succ_pos k) rfl),
        ih hk (fun i x hi => hlow (i + 1) x (Nat.succ_lt_succ hi)), Nat.add_right_comm,
        Nat.add_assoc]

/-- The frame at place `k` of `fs` passes check 7. -/
def State.consistentAt (s : State) (fs : List SnapFrame) (k : Nat) (f : SnapFrame) : Prop :=
  s.consistent f (decide (k + 1 = fs.length)) = true

theorem consistentAt_head (s : State) (f : SnapFrame) (fs : List SnapFrame) :
    s.consistentAt (f :: fs) 0 f ↔ s.consistent f fs.isEmpty = true := by
  cases fs <;> simp [State.consistentAt]

theorem consistentAt_tail (s : State) (f g : SnapFrame) (fs : List SnapFrame) (k : Nat) :
    s.consistentAt (f :: fs) (k + 1) g ↔ s.consistentAt fs k g := by
  simp [State.consistentAt]

/-- Every frame is consistent at its place: check 7 finds none. -/
theorem inconsistentAt_none {s : State} {fs : List SnapFrame}
    (h : ∀ k f, fs[k]? = some f → s.consistentAt fs k f) (j : Nat) :
    s.inconsistentAt j fs = none := by
  induction fs generalizing j with
  | nil => rfl
  | cons f fs ih =>
    rw [State.inconsistentAt, if_pos ((consistentAt_head s f fs).1 (h 0 f rfl))]
    exact ih (fun k g hg => (consistentAt_tail s f g fs k).1 (h (k + 1) g hg)) _

/-- A frame that is not consistent, with none below it, is the one that check 7 finds. -/
theorem inconsistentAt_some {s : State} {fs : List SnapFrame} {k : Nat} {f : SnapFrame}
    (hk : fs[k]? = some f) (hf : ¬ s.consistentAt fs k f)
    (hlow : ∀ i g, i < k → fs[i]? = some g → s.consistentAt fs i g) (j : Nat) :
    s.inconsistentAt j fs = some (j + k) := by
  induction fs generalizing j k with
  | nil => cases hk
  | cons g fs ih =>
    cases k with
    | zero =>
      obtain rfl : g = f := Option.some.inj hk
      exact if_neg (mt (consistentAt_head s g fs).2 hf)
    | succ k =>
      rw [State.inconsistentAt,
        if_pos ((consistentAt_head s g fs).1 (hlow 0 g (Nat.succ_pos k) rfl)),
        ih hk (mt (consistentAt_tail s g f fs k).2 hf) fun i x hi hx =>
          (consistentAt_tail s g x fs i).1 (hlow (i + 1) x (Nat.succ_lt_succ hi) hx),
        Nat.add_right_comm, Nat.add_assoc]

/-! ## RESUME (R120, R122) -/

/-- A request row in service whose body refuses it with results. -/
theorem exec_of_refuseWith {i : Instr} {f : LinkFrame} {body : List Byte → State → Served}
    {s : State} {st : Status} {results : List Byte} (hk : i.kindWf = true) (hf : i.frame? = some f)
    (hb : bodyOf i = some body) (hs : Serving s f)
    (hr : body f.payload s = refuseWith st results s) :
    exec i s = .next (replied s f st results) := by
  rw [exec_serving hk hf hb hs, hr]
  rfl

section
variable {s : State} {x : Snapshot}

theorem resumeRefusal_version (h : x.version ≠ s.rotation.version) :
    s.resumeRefusal x = some ⟨.stale, []⟩ := if_pos h

variable (hversion : x.version = s.rotation.version)
include hversion

theorem resumeRefusal_stale {k : Nat} {f : SnapFrame} (h : s.staleAt 0 x.frames = some (k, f)) :
    s.resumeRefusal x = some ⟨.stale, s.staleResults k f⟩ := by
  rw [State.resumeRefusal, if_neg (not_not.2 hversion), h]

theorem resumeRefusal_fresh (h : s.staleAt 0 x.frames = none) :
    s.resumeRefusal x = (s.inconsistentAt 0 x.frames).map fun k => ⟨.invalid, byte k⟩ := by
  rw [State.resumeRefusal, if_neg (not_not.2 hversion), h]

end

section
variable {s : State} {snapshot : Byte} (hidle : s.engine.mode = .idle)
include hidle

theorem resume_range (h : 3 < snapshot.toNat) : resume snapshot s = refuse .range s := by
  rw [resume, unlessLocked_of_ne (by simp [hidle]), if_neg (not_not.2 hidle), snapshotId_none h]

variable {n : SnapshotId} (hn : snapshot.toNat = n.val)
include hn

theorem resume_empty (h : s.engine.snapshots[n].state = .empty) :
    resume snapshot s = refuse .empty s := by
  rw [resume, unlessLocked_of_ne (by simp [hidle]), if_neg (not_not.2 hidle), snapshotId_some hn]
  exact if_pos h

variable (hfull : s.engine.snapshots[n].state ≠ .empty)
include hfull

theorem resume_refused {r : Reply} (h : s.resumeRefusal s.engine.snapshots[n] = some r) :
    resume snapshot s = refuseWith r.status r.results s := by
  rw [resume, unlessLocked_of_ne (by simp [hidle]), if_neg (not_not.2 hidle), snapshotId_some hn]
  simp only [if_neg hfull, h]

theorem resume_accept (h : s.resumeRefusal s.engine.snapshots[n] = none) :
    resume snapshot s =
      accept (resumeRun n s.engine.snapshots[n] s)
        (resumeResults s.engine.snapshots[n] (resumeRun n s.engine.snapshots[n] s)) := by
  rw [resume, unlessLocked_of_ne (by simp [hidle]), if_neg (not_not.2 hidle), snapshotId_some hn]
  simp only [if_neg hfull, h]

end

/-- What a resume restores of a snapshot's frames: the last one live over the others (R122). -/
theorem engine_resume_of_frames {x : Snapshot} {under : List SnapFrame} {last : SnapFrame}
    (h : x.frames = under ++ [last]) (e : Engine) :
    e.resume x =
      { e.startRun .rotation with
        options := x.options
        stepCounter := x.stepCounter
        pendingSplice := none
        live := some last.runFrame
        stack := (under.map SnapFrame.saved).reverse } := by
  simp [Engine.resume, h]

/-- Settles O42: RESUME's checks one after another, the frames' by the lowest that fails; the run by
the frames that `Engine.resume` restores. -/
theorem resumeRestoresTheRun : Obligations.ResumeRestoresTheRun := by
  unfold Obligations.ResumeRestoresTheRun
  intro r s snapshot hpayload hs hidle
  have hbody : serveResume (r.frame Kind.resume).payload s = resume snapshot s := by
    rw [Req.frame, hpayload, serveResume]
  refine ⟨fun hrange => exec_of_refuse rfl rfl rfl hs (hbody.trans (resume_range hidle hrange)), ?_⟩
  rintro n x hn rfl refused stale consistent ok
  have hstale : ∀ f, stale f ↔ s.staleFrame f = true := fun f => (staleFrame_iff s f).symm
  have hok : ∀ k f, ok k f ↔ s.consistentAt s.engine.snapshots[n].frames k f := fun k f =>
    (consistent_iff s f _).symm
  have hrefused {p : Reply} (hfull : s.engine.snapshots[n].state ≠ .empty)
      (h : s.resumeRefusal s.engine.snapshots[n] = some p) : refused p.status p.results :=
    exec_of_refuseWith rfl rfl rfl hs (hbody.trans (resume_refused hidle hn hfull h))
  simp only [hstale, hok]
  refine ⟨fun hempty => exec_of_refuse rfl rfl rfl hs (hbody.trans (resume_empty hidle hn hempty)),
    fun hfull hversion => hrefused hfull (resumeRefusal_version hversion),
    fun k f hfull hversion hk hf hlow => ?_, fun k f hfull hversion hfresh hk hf hlow => ?_,
    fun last under hfull hversion hfresh hall hframes => ?_⟩
  · have hresults : s.staleResults (0 + k) f =
        byte k ++ byte f.pattern.val
          ++ [match s.store.content f.pattern with
            | .undefined => (0 : Byte)
            | .stored _ _ => 1
            | .generated _ _ => 2]
          ++ bytesC s.store.directory[f.pattern].generation := by
      rw [State.staleResults, byte_code, Nat.zero_add]
      cases s.store.content f.pattern <;> rfl
    have hat : refused .stale (s.staleResults (0 + k) f) :=
      hrefused hfull (resumeRefusal_stale hversion (staleAt_some hk hf hlow 0))
    rw [hresults] at hat
    exact hat
  · refine hrefused (p := ⟨.invalid, byte k⟩) hfull ?_
    rw [resumeRefusal_fresh hversion (staleAt_none hfresh 0), inconsistentAt_some hk hf hlow 0,
      Nat.zero_add]
    rfl
  · have hnone : s.resumeRefusal s.engine.snapshots[n] = none := by
      rw [resumeRefusal_fresh hversion (staleAt_none hfresh 0), inconsistentAt_none hall 0]
      rfl
    have hexec := exec_of_accept (i := .resume r) rfl rfl rfl hs
      (hbody.trans (resume_accept hidle hn hfull hnone))
    refine ⟨resumeRun n s.engine.snapshots[n] s, ?_, hexec.trans ?_⟩
    · rw [resumeRun, engine_resume_of_frames hframes]
      rfl
    · rw [resumeResults, hframes, List.length_append, List.length_singleton, Nat.add_sub_cancel]

end Sys2Proof.Machine
end

section
/-! SUPPORT. A run suspended and resumed at once (R118 to R122): what SUSPEND saves of a lawful run,
no check of RESUME refuses, and RESUME restores. -/

namespace Sys2Proof.Machine

open Safety

/-! ## A frame saved and restored (R118, R122) -/

theorem toNat_ofNat_byte {v : Nat} (h : v ≤ 255) : (BitVec.ofNat 8 v).toNat = v :=
  (BitVec.toNat_ofNat v 8).trans (Nat.mod_eq_of_lt (Nat.lt_succ_of_le h))

/-- A slot index written as a byte names that slot (R178). -/
theorem slotByte_toNat (i : SlotIndex) : (BitVec.ofNat 8 i.val).toNat = i.val :=
  toNat_ofNat_byte (by omega)

/-- A frame that a snapshot can save and a resume restore: sound, with the passes left and the
skip-on-return in the ranges of their fields (R56, R80). -/
structure Restorable (s : State) (g : SavedFrame) : Prop where
  sound  : FrameSound s g.frame
  passes : ∀ b ∈ g.frame.base, b.passesLeft ≤ 255
  skip   : g.skip ≤ 255

/-- Every frame of a lawful run is one, the live one among them (R118). -/
theorem Framed.restorable {s : State} (h : Framed s)
    (hdwell : ∀ i : SlotIndex, s.rotation.active.slots[i].dwell ≤ 255) :
    ∀ g ∈ s.engine.frames, Restorable s g := by
  obtain ⟨_, hsound, hskip⟩ := h.frames
  obtain ⟨f, hf, _⟩ := h.tower
  intro g hg
  refine ⟨hsound g hg, fun b hb => ?_, ?_⟩
  · obtain ⟨_, _, _, _, _, hpasses⟩ := (frameSound_base hb).1 (hsound g hg)
    exact Nat.le_trans hpasses (hdwell b.slot)
  · rw [frames_of_live hf, List.mem_append, List.mem_reverse, List.mem_singleton] at hg
    rcases hg with hg | rfl
    · exact hskip g hg
    · exact Nat.zero_le _

theorem Restorable.congr {s t : State} {g : SavedFrame} (h : Restorable s g)
    (hst : SameGround s t) : Restorable t g := ⟨h.sound.congr hst, h.passes, h.skip⟩

theorem snapFrame_kind (s : State) (g : SavedFrame) :
    (s.snapFrame g).kind = .base ↔ ∃ b, g.frame.base = some b := by
  rw [← Option.isSome_iff_exists, State.snapFrame]
  cases g.frame.base <;> simp

/-- A frame of the run saved in a snapshot and restored is the frame it was. -/
theorem Restorable.saved_snapFrame {s : State} {g : SavedFrame} (h : Restorable s g) :
    (s.snapFrame g).saved = g := by
  have hpasses := h.passes
  obtain ⟨⟨pattern, pos, timing, base⟩, skip⟩ := g
  cases base with
  | none => rfl
  | some b =>
    have hslot := slotIndex_some (slotByte_toNat b.slot)
    have hbyte := toNat_ofNat_byte (hpasses b rfl)
    simp [SnapFrame.saved, SnapFrame.runFrame, State.snapFrame, hslot, hbyte]

/-- While its pattern stays as it was, a saved frame is not stale (R120 check 6). -/
theorem Restorable.not_stale {s : State} {g : SavedFrame} (h : Restorable s g) :
    ¬ s.staleFrame (s.snapFrame g) = true := by
  obtain ⟨hdefined, _⟩ := h.sound
  rw [staleFrame_iff]
  rintro (hundefined | hgeneration)
  · exact (isDefined_iff _).1 hdefined hundefined
  · exact hgeneration rfl

/-- A frame placed in its pass is consistent as a snapshot keeps it (R121). -/
theorem Restorable.consistent {s : State} {g : SavedFrame} (h : Restorable s g) (last : Bool) :
    s.consistent (s.snapFrame g) last = true := by
  have hpass {d : Direction} {n : Nat} {p : Position} (hp : suited d n p = true) :=
    (mem_passPositions d n p).1 (suited_iff.1 hp)
  rw [consistent_iff]
  cases hb : g.frame.base with
  | none =>
    obtain ⟨_, hsuited⟩ := (frameSound_splice hb).1 h.sound
    obtain ⟨hindex, hforward, _⟩ := hpass hsuited
    refine ⟨hindex, fun _ => h.skip, fun _ => ?_, fun hkind => ?_⟩
    · cases hphase : g.frame.pos.phase with
      | ascending => exact hphase
      | descending => exact absurd ⟨rfl, hphase⟩ hforward
    · obtain ⟨b, hsome⟩ := (snapFrame_kind s g).1 hkind
      simp [hb] at hsome
  | some b =>
    obtain ⟨_, hsuited, hcount, hpattern, hone, hdwell⟩ := (frameSound_base hb).1 h.sound
    have hkind := (snapFrame_kind s g).2 ⟨b, hb⟩
    have hslot : (s.snapFrame g).slot.toNat = b.slot.val := by
      simpa [State.snapFrame, hb] using slotByte_toNat b.slot
    have hpasses : (s.snapFrame g).passesLeft.toNat = b.passesLeft := by
      simpa [State.snapFrame, hb] using toNat_ofNat_byte (h.passes b hb)
    refine ⟨(hpass hsuited).1, fun _ => h.skip, fun hsplice => ?_, fun _ => ?_⟩
    · simp [hkind] at hsplice
    · rw [State.directionOf, hb] at hsuited
      rw [hpasses]
      exact ⟨b.slot, hslot, hcount, hpattern, hone, hdwell, hsuited⟩

/-! ## A snapshot of a lawful run (R118, R120, R122) -/

/-- No check of RESUME refuses a snapshot of frames that may be restored, of the active version. -/
theorem resumeRefusal_none {s : State} {x : Snapshot} {gs : List SavedFrame}
    (hversion : x.version = s.rotation.version) (hframes : x.frames = gs.map s.snapFrame)
    (h : ∀ g ∈ gs, Restorable s g) : s.resumeRefusal x = none := by
  have hstale : ∀ f ∈ x.frames, ¬ s.staleFrame f = true := by
    rw [hframes, List.forall_mem_map]
    exact fun g hg => (h g hg).not_stale
  have hconsistent : ∀ k f, x.frames[k]? = some f → s.consistentAt x.frames k f := by
    intro k f hk
    have hf := List.mem_of_getElem? hk
    rw [hframes, List.mem_map] at hf
    obtain ⟨g, hg, rfl⟩ := hf
    exact (h g hg).consistent _
  rw [resumeRefusal_fresh hversion (staleAt_none hstale 0), inconsistentAt_none hconsistent 0]
  rfl

/-- What a suspend saves depends on the pattern store in the generations alone (R118). -/
theorem snapFrame_congr {s t : State} (h : t.store = s.store) : t.snapFrame = s.snapFrame := by
  funext g
  rw [State.snapFrame, h]
  rfl

/-- What a suspend saves of a lawful run, a resume restores: the live frame and the context stack. -/
theorem engine_resume_savedRun {s : State} {f : RunFrame} (hf : s.engine.live = some f)
    (h : ∀ g ∈ s.engine.frames, Restorable s g) (e : Engine) :
    (e.resume s.savedRun).live = s.engine.live ∧ (e.resume s.savedRun).stack = s.engine.stack := by
  rw [frames_of_live hf] at h
  have hframes : s.savedRun.frames =
      s.engine.stack.reverse.map s.snapFrame ++ [s.snapFrame ⟨f, 0⟩] := by
    rw [State.savedRun, frames_of_live hf, List.map_append, List.map_singleton]
  have hlast : (s.snapFrame ⟨f, 0⟩).saved = ⟨f, 0⟩ :=
    (h ⟨f, 0⟩ (by simp)).saved_snapFrame
  have hunder : (s.engine.stack.reverse.map s.snapFrame).map SnapFrame.saved =
      s.engine.stack.reverse := by
    rw [List.map_map]
    exact (List.map_congr_left fun g hg => (h g (List.mem_append_left _ hg)).saved_snapFrame).trans
      (List.map_id _)
  rw [engine_resume_of_frames hframes, hunder, List.reverse_reverse, hf]
  exact ⟨congrArg (fun g => some g.frame) hlast, rfl⟩

/-- A run end with no swap waiting leaves the rotations as they are (R94 step 4). -/
theorem runEnd_rotation_of_no_swap {s : State} (h : s.rotation.swapWaiting = false)
    (c : StopCause) : (runEnd c s).rotation = s.rotation := by
  rw [runEnd_rotation, swapIfWaiting_rotation, if_neg (by simp [h])]

/-- What a run suspended into snapshot `n` leaves of the state `s` before it, where no swap waited
(R118, R119): an IDLE part whose next request is served, over the same patterns and rotations. -/
structure Suspended (n : SnapshotId) (s t : State) (next : LinkFrame) : Prop where
  serving  : Serving t next
  idle     : t.engine.mode = .idle
  saved    : t.engine.snapshots[n] = s.savedRun
  store    : t.store = s.store
  rotation : t.rotation = s.rotation

theorem exec_suspend_leaves {s : State} {a : Req} {n : SnapshotId} {next : LinkFrame}
    (hlawful : Lawful s) (hoperating : s.operating = true) (hfree : s.store.pack = none)
    (hqueue : s.link.requests = [a.frame Kind.suspend, next])
    (hpayload : a.payload = [BitVec.ofNat 8 n.val]) (hlive : s.engine.rotationLive = true)
    (hswap : s.rotation.swapWaiting = false) (hempty : s.engine.snapshots[n].state = .empty) :
    ∃ t, exec (.suspend a) s = .next t ∧ Suspended n s t next := by
  have hs : Serving s (a.frame Kind.suspend) := ⟨hoperating, hfree, by rw [hqueue]; rfl⟩
  have hbody : serveSuspend (a.frame Kind.suspend).payload s =
      accept (runEnd .suspended (s.putSnapshot n s.savedRun))
        (suspendResults n s.savedRun s.rotation.swapWaiting) := by
    rw [Req.frame, hpayload]
    exact suspend_accept hlive (toNat_ofNat_byte (by omega)) hempty
  have hworking := serveSuspend_working ((core_of_lawful hlawful).working hoperating hfree)
    (a.frame Kind.suspend).payload
  rw [hbody] at hworking
  have hstore : (runEnd .suspended (s.putSnapshot n s.savedRun)).store = s.store := runEnd_store _ _
  exact ⟨_, exec_of_accept rfl rfl rfl hs hbody,
    { serving :=
        { operating := (operating_iff _).2 hworking.link.power
          free := (congrArg Store.pack hstore).trans hfree
          oldest := by
            have hrequests := hworking.link.queue.trans hqueue
            exact congrArg (fun q => q.tail.head?) hrequests }
      idle := congrArg Engine.mode (runEnd_engine .suspended (s.putSnapshot n s.savedRun))
      saved := (congrArg (·[n]) (runEnd_snapshots _ _)).trans (putSnapshot_same s n s.savedRun)
      store := hstore
      rotation := runEnd_rotation_of_no_swap (s := s.putSnapshot n s.savedRun) hswap .suspended }⟩

/-- RESUME of what a lawful run left in the snapshot is accepted (R120). -/
theorem exec_resume_accepted {s t : State} {b : Req} {n : SnapshotId}
    (h : Suspended n s t (b.frame Kind.resume)) (hpayload : b.payload = [BitVec.ofNat 8 n.val])
    (hrestorable : ∀ g ∈ s.engine.frames, Restorable s g) :
    exec (.resume b) t = .next (replied (resumeRun n s.savedRun t) (b.frame Kind.resume) .ok
      (resumeResults s.savedRun (resumeRun n s.savedRun t))) := by
  have hground : SameGround s t := ⟨h.store, congrArg RotationUnit.active h.rotation⟩
  have hnone : t.resumeRefusal s.savedRun = none :=
    resumeRefusal_none (congrArg RotationUnit.version h.rotation).symm
      (congrArg (s.engine.frames.map ·) (snapFrame_congr h.store)).symm
      fun g hg => (hrestorable g hg).congr hground
  refine exec_of_accept rfl rfl rfl h.serving ?_
  rw [Req.frame, hpayload, ← h.saved]
  refine resume_accept h.idle (toNat_ofNat_byte (by omega)) ?_ ?_
  · simp [h.saved, State.savedRun]
  · rw [h.saved, hnone]

/-- A command that answers next goes before the rest. -/
theorem carriedOut_next {c : Instr} {s t : State} (h : exec c s = .next t) (cs : List Instr) :
    carriedOut (c :: cs) s = carriedOut cs t := by
  rw [carriedOut, h]

/-- The engine that a resume leaves: restored, snapshot `n` EMPTY, in what its first step start
makes of the mode, the kept record and the release latch (R122). -/
theorem resumeRun_engine (n : SnapshotId) (x : Snapshot) (s : State) :
    ∃ m v b, (resumeRun n x s).engine =
      { s.engine.resume x with
        snapshots := s.engine.snapshots.set n.val Snapshot.none
        mode := m
        stepRecord := v
        releaseLatch := b } := stepStart_engine _

/-- Settles O43: SUSPEND leaves a state in which RESUME meets the same patterns and rotations, and
restores the frames that SUSPEND saved. -/
theorem suspendThenResumeRestoresTheRun : Obligations.SuspendThenResumeRestoresTheRun := by
  unfold Obligations.SuspendThenResumeRestoresTheRun
  intro s a b n hlawful hoperating hfree hqueue ha hb hlive hswap hempty
  have hcore := core_of_lawful hlawful
  obtain ⟨hready, _⟩ := (hcore.working hoperating hfree).rotating hlive
  have hrestorable := hready.framed.restorable fun i => (hcore.rotation.dwells i).1
  obtain ⟨f, hf, _⟩ := hready.framed.tower
  obtain ⟨t, hsuspend, ht⟩ :=
    exec_suspend_leaves hlawful hoperating hfree hqueue ha hlive hswap hempty
  have hresume := exec_resume_accepted ht hb hrestorable
  refine ⟨_, (carriedOut_next hsuspend _).trans (carriedOut_next hresume []), ?_⟩
  obtain ⟨hframe, hstack⟩ := engine_resume_savedRun hf hrestorable t.engine
  obtain ⟨m, v, l, hengine⟩ := resumeRun_engine n s.savedRun t
  have hmode : (resumeRun n s.savedRun t).engine.mode = .waiting ∨
      (resumeRun n s.savedRun t).engine.mode = .running := stepStart_mode (hframe.trans hf)
  have hchecker : (resumeRun n s.savedRun t).checker = t.checker.resume s.checker.failingSteps :=
    stepStart_checker _
  have hrotation : (resumeRun n s.savedRun t).rotation = t.rotation := stepStart_rotation _
  have hstore : (resumeRun n s.savedRun t).store = t.store := stepStart_store _
  simp only [replied, State.withLink_engine, State.withLink_checker, State.withLink_rotation,
    State.withLink_store, hchecker, hrotation.trans ht.rotation, hstore.trans ht.store, hmode.symm]
  simp only [hengine, hframe, hstack]
  simp [Engine.resume, Engine.startRun, Checker.resume, State.savedRun, Snapshot.none]

end Sys2Proof.Machine
end

section
/-! SUPPORT. Snapshots on the link (R124, R125, R178): a frame record and a header read back as what
they were written of, what LOAD_SNAPSHOT's form check refuses, and the requests READ_SNAPSHOT,
LOAD_SNAPSHOT and DISCARD_SNAPSHOT. -/

namespace Sys2Proof.Machine

open Safety

/-! ## Fields read back (R177) -/

theorem num2_bytes2 {v : Nat} (h : v ≤ 65535) :
    num2 (BitVec.ofNat 8 (v / 256)) (BitVec.ofNat 8 v) = v := by
  simp only [num2, BitVec.toNat_ofNat]
  omega

theorem bytesC_eq (c : Count32) :
    bytesC c = [BitVec.ofNat 8 (c.toNat / 16777216), BitVec.ofNat 8 (c.toNat / 65536),
      BitVec.ofNat 8 (c.toNat / 256), BitVec.ofNat 8 c.toNat] := bytes4_eq c.toNat

theorem count4_bytesC (c : Count32) :
    count4 (BitVec.ofNat 8 (c.toNat / 16777216)) (BitVec.ofNat 8 (c.toNat / 65536))
      (BitVec.ofNat 8 (c.toNat / 256)) (BitVec.ofNat 8 c.toNat) = c := by
  have hc := c.isLt
  apply BitVec.eq_of_toNat_eq
  simp only [count4, num4, BitVec.toNat_ofNat]
  omega

theorem yes_code (b : Bool) : yes (if b then 1 else 0) = b := by
  cases b <;> rfl

theorem runMode_some (m : RunMode) : RunMode.ofByte? m.code = some m := by
  cases m <;> rfl

theorem frameKind_some (k : FrameKind) : FrameKind.ofByte? k.code = some k := by
  cases k <;> rfl

theorem phase_some (p : Phase) : Phase.ofByte? p.code = some p := by
  cases p <;> rfl

theorem patternId_ofNat (p : PatternId) : PatternId.ofByte? (BitVec.ofNat 8 p.val) = some p :=
  patternId_some (toNat_ofNat_byte (by omega))

theorem timingId_ofNat (t : TimingId) : TimingId.ofByte? (BitVec.ofNat 8 t.val) = some t :=
  timingId_some (toNat_ofNat_byte (by omega))

theorem runMode_none {b : Byte} (h : 1 < b.toNat) : RunMode.ofByte? b = none :=
  List.getElem?_eq_none h

theorem frameKind_none {b : Byte} (h : 1 < b.toNat) : FrameKind.ofByte? b = none :=
  List.getElem?_eq_none h

theorem phase_none {b : Byte} (h : 1 < b.toNat) : Phase.ofByte? b = none :=
  List.getElem?_eq_none h

/-! ## Pieces of a payload -/

theorem pieces_flatMap {α : Type} {size : Nat} {g : α → List Byte} (h : ∀ a, (g a).length = size)
    (xs : List α) : pieces size xs.length (xs.flatMap g) = xs.map g := by
  induction xs with
  | nil => rfl
  | cons a xs ih =>
    rw [List.flatMap_cons, List.length_cons, pieces, List.take_left' (h a), List.drop_left' (h a),
      ih, List.map_cons]

/-- A piece of a payload's tail, byte by byte. -/
theorem getD_piece (p : List Byte) (start : Nat) {size i : Nat} (h : i < size) :
    ((p.drop start).take size).getD i 0 = p.getD (start + i) 0 := by
  simp [List.getD_eq_getElem?_getD, h]

theorem mem_pieces {size count k : Nat} (h : k < count) (p : List Byte) :
    (p.drop (size * k)).take size ∈ pieces size count p := by
  induction count generalizing k p with
  | zero => exact absurd h (Nat.not_lt_zero k)
  | succ count ih =>
    rw [pieces]
    cases k with
    | zero => exact List.mem_cons_self
    | succ k =>
      refine List.mem_cons_of_mem _ ?_
      have hrest := ih (Nat.lt_of_succ_lt_succ h) (p.drop size)
      rwa [List.drop_drop, Nat.add_comm, ← Nat.mul_succ] at hrest

/-! ## A frame record (R124 check 3, R178) -/

theorem snapFrame_bytes_length (f : SnapFrame) : f.bytes.length = 14 := by
  simp [SnapFrame.bytes, byte_eq, bytes2_eq, bytesC_eq]

/-- The numbers of a frame record fit its 2-byte fields (R124). -/
structure SnapFrame.Fits (f : SnapFrame) : Prop where
  index : f.pos.index ≤ 65535
  skip  : f.skip ≤ 65535

/-- A frame record reads back as its frame, unless a BASE frame names no slot (R124). -/
theorem snapFrame_ofBytes?_bytes {f : SnapFrame} (h : f.Fits) :
    SnapFrame.ofBytes? f.bytes = if f.kind = .base ∧ 16 ≤ f.slot.toNat then none else some f := by
  simp only [SnapFrame.bytes, byte_eq, bytes2_eq, bytesC_eq, List.cons_append, List.nil_append,
    SnapFrame.ofBytes?, frameKind_some, patternId_ofNat, phase_some, timingId_ofNat,
    num2_bytes2 h.index, num2_bytes2 h.skip, count4_bytesC]

/-- A record whose kind, pattern id, phase or timing set byte names no value is out of form (R124). -/
theorem snapFrame_ofBytes?_none {b : List Byte}
    (h : 1 < (b.getD 0 0).toNat ∨ 31 < (b.getD 1 0).toNat ∨ 1 < (b.getD 5 0).toNat ∨
      3 < (b.getD 9 0).toNat) : SnapFrame.ofBytes? b = none := by
  unfold SnapFrame.ofBytes?
  split
  · split
    next hkind hpattern hphase htiming =>
      simp only [List.getD_cons_zero, List.getD_cons_succ] at h
      rcases h with h | h | h | h
      · simp [frameKind_none h] at hkind
      · simp [patternId_none h] at hpattern
      · simp [phase_none h] at hphase
      · simp [timingId_none h] at htiming
    · rfl
  · rfl

theorem snapFramesOf?_none {bs : List (List Byte)} {b : List Byte} (hb : b ∈ bs)
    (h : SnapFrame.ofBytes? b = none) : snapFramesOf? bs = none := by
  induction bs with
  | nil => simp at hb
  | cons c bs ih =>
    rw [snapFramesOf?]
    rcases List.mem_cons.1 hb with rfl | hb
    · rw [h]
    · rw [ih hb]
      cases SnapFrame.ofBytes? c <;> rfl

theorem snapFramesOf?_map_bytes {fs : List SnapFrame} (h : ∀ f ∈ fs, f.Fits)
    (hslot : ∀ f ∈ fs, ¬ (f.kind = .base ∧ 16 ≤ f.slot.toNat)) :
    snapFramesOf? (fs.map SnapFrame.bytes) = some fs := by
  induction fs with
  | nil => rfl
  | cons f fs ih =>
    rw [List.forall_mem_cons] at h hslot
    rw [List.map_cons, snapFramesOf?, snapFrame_ofBytes?_bytes h.1, if_neg hslot.1,
      ih h.2 hslot.2]

/-! ## A record (R124, R178) -/

/-- The frames are in LOAD_SNAPSHOT's form: 1 to 5 of them, the first BASE with a slot index of 15
or less, every later one SPLICE (R124 check 3). -/
def FormedFrames (fs : List SnapFrame) : Prop :=
  ∃ f rest, fs = f :: rest ∧ f.kind = .base ∧ f.slot.toNat ≤ 15 ∧ rest.length ≤ 4 ∧
    ∀ g ∈ rest, g.kind = .splice

theorem formedFrames_iff (fs : List SnapFrame) :
    FormedFrames fs ↔
      snapFormOk fs = true ∧ ∀ f ∈ fs, ¬ (f.kind = .base ∧ 16 ≤ f.slot.toNat) := by
  cases fs with
  | nil => simp [FormedFrames, snapFormOk]
  | cons f rest =>
    simp only [FormedFrames, snapFormOk, List.cons.injEq, Bool.and_eq_true, decide_eq_true_eq,
      List.all_eq_true, List.forall_mem_cons, not_and, Nat.not_le]
    constructor
    · rintro ⟨_, _, ⟨rfl, rfl⟩, hbase, hslot, hlen, hsplice⟩
      exact ⟨⟨⟨hbase, hsplice⟩, hlen⟩, fun _ => Nat.lt_succ_of_le hslot,
        fun g hg hk => by simp [hsplice g hg] at hk⟩
    · rintro ⟨⟨⟨hbase, hsplice⟩, hlen⟩, hslot, _⟩
      exact ⟨f, rest, ⟨rfl, rfl⟩, hbase, Nat.le_of_lt_succ (hslot hbase), hlen, hsplice⟩

/-- The numbers of a snapshot fit the fields of its record (R124, R178). -/
structure Snapshot.Fits (x : Snapshot) : Prop where
  options : OptionsInRange x.options
  failing : x.failingSteps ≤ 65535
  frames  : ∀ f ∈ x.frames, f.Fits

/-- The 15 bytes before the frame count (R178). -/
def Snapshot.headerBytes (x : Snapshot) : List Byte :=
  [x.options.mode.code] ++ byte x.options.stopOnFail ++ bytes2 x.options.waitTimeout
    ++ bytesB x.options.clearAtStart ++ bytesC x.version ++ bytesC x.stepCounter
    ++ bytes2 x.failingSteps

theorem headerBytes_length (x : Snapshot) : x.headerBytes.length = 15 := by
  simp [Snapshot.headerBytes, byte_eq, bytes2_eq, bytesC_eq, bytesB]

theorem snapshot_bytes_eq (x : Snapshot) :
    x.bytes =
      x.headerBytes ++
        (BitVec.ofNat 8 x.frames.length :: x.frames.flatMap SnapFrame.bytes) := by
  simp only [Snapshot.bytes, Snapshot.headerBytes, byte_eq x.frames.length, List.append_assoc,
    List.cons_append, List.nil_append]

theorem ofHeader?_headerBytes {x : Snapshot} (h : x.Fits) (fs : List SnapFrame) :
    Snapshot.ofHeader? fs x.headerBytes = some { x with state := .loaded, frames := fs } := by
  obtain ⟨hstop, hwait⟩ := h.options
  simp only [Snapshot.headerBytes, byte_eq, bytes2_eq, bytesC_eq, bytesB, List.cons_append,
    List.nil_append, Snapshot.ofHeader?, runMode_some, Option.map_some, yes_code,
    toNat_ofNat_byte hstop, num2_bytes2 hwait, num2_bytes2 h.failing, count4_bytesC]

/-- A mode byte that names no value puts the record out of form (R124). -/
theorem ofHeader?_none {header : List Byte} (h : 1 < (header.getD 0 0).toNat)
    (fs : List SnapFrame) : Snapshot.ofHeader? fs header = none := by
  unfold Snapshot.ofHeader?
  split
  · rw [List.getD_cons_zero] at h
    rw [runMode_none h, Option.map_none]
  · rfl

theorem ofRecord?_none_of_header {header : List Byte}
    (h : ∀ fs, Snapshot.ofHeader? fs header = none) (bs : List (List Byte)) :
    Snapshot.ofRecord? header bs = none := by
  rw [Snapshot.ofRecord?]
  cases snapFramesOf? bs with
  | none => rfl
  | some fs => simp only [h fs, ite_self]

theorem ofRecord?_none_of_frames {bs : List (List Byte)} (h : snapFramesOf? bs = none)
    (header : List Byte) : Snapshot.ofRecord? header bs = none := by
  rw [Snapshot.ofRecord?, h]

/-- A record whose frames are in form reads back as its snapshot, LOADED (R124). -/
theorem ofRecord?_bytes {x : Snapshot} (h : x.Fits) (hformed : FormedFrames x.frames) :
    Snapshot.ofRecord? x.headerBytes (x.frames.map SnapFrame.bytes) =
      some { x with state := .loaded } := by
  obtain ⟨hform, hslot⟩ := (formedFrames_iff _).1 hformed
  simp only [Snapshot.ofRecord?, snapFramesOf?_map_bytes h.frames hslot, if_pos hform,
    ofHeader?_headerBytes h]

/-- A record whose frames are not in form is refused (R124 check 3). -/
theorem ofRecord?_bytes_none {x : Snapshot} (h : x.Fits) (hformed : ¬ FormedFrames x.frames) :
    Snapshot.ofRecord? x.headerBytes (x.frames.map SnapFrame.bytes) = none := by
  by_cases hslot : ∀ f ∈ x.frames, ¬ (f.kind = .base ∧ 16 ≤ f.slot.toNat)
  · have hform : ¬ snapFormOk x.frames = true := fun hform =>
      hformed ((formedFrames_iff _).2 ⟨hform, hslot⟩)
    simp only [Snapshot.ofRecord?, snapFramesOf?_map_bytes h.frames hslot, if_neg hform]
  · push Not at hslot
    obtain ⟨f, hf, hbad⟩ := hslot
    refine ofRecord?_none_of_frames (snapFramesOf?_none (List.mem_map_of_mem hf) ?_) _
    rw [snapFrame_ofBytes?_bytes (h.frames f hf), if_pos hbad]

/-! ## LOAD_SNAPSHOT (R124) -/

/-- A payload of the right length is taken apart as the table lays it out (R178). -/
theorem serveLoadSnapshot_of_length {p : List Byte}
    (h : (17 ≤ p.length && p.length = 17 + 14 * (p.getD 16 0).toNat) = true) (s : State) :
    serveLoadSnapshot p s =
      loadSnapshot (p.getD 0 0) ((p.drop 1).take 15)
        (pieces 14 (p.getD 16 0).toNat (p.drop 17)) s := if_pos h

/-- What READ_SNAPSHOT writes after the state, LOAD_SNAPSHOT takes apart again (R178). -/
theorem serveLoadSnapshot_bytes {x : Snapshot} (h : x.frames.length < 256) (snapshot : Byte)
    (s : State) :
    serveLoadSnapshot (snapshot :: x.bytes) s =
      loadSnapshot snapshot x.headerBytes (x.frames.map SnapFrame.bytes) s := by
  have hheader := headerBytes_length x
  have hcount : (snapshot :: x.bytes).getD 16 0 = BitVec.ofNat 8 x.frames.length := by
    rw [snapshot_bytes_eq, List.getD_cons_succ, List.getD_append_right _ _ _ _ (by omega), hheader]
    rfl
  have hframes : (snapshot :: x.bytes).drop 17 = x.frames.flatMap SnapFrame.bytes := by
    rw [snapshot_bytes_eq, List.drop_succ_cons, List.drop_append, hheader,
      List.drop_eq_nil_of_le (by omega)]
    rfl
  have htake : ((snapshot :: x.bytes).drop 1).take 15 = x.headerBytes := by
    rw [snapshot_bytes_eq]
    exact List.take_left' hheader
  have hlength : (snapshot :: x.bytes).length = 17 + 14 * x.frames.length := by
    simp only [snapshot_bytes_eq, List.length_cons, List.length_append, hheader,
      List.length_flatMap, snapFrame_bytes_length, List.map_const', List.sum_replicate, smul_eq_mul]
    omega
  rw [serveLoadSnapshot_of_length, hcount, hframes, htake, toNat_ofNat_byte (by omega),
    pieces_flatMap snapFrame_bytes_length, List.getD_cons_zero]
  rw [hcount, hlength, toNat_ofNat_byte (by omega)]
  simp

section
variable {s : State} (hm : s.engine.mode ≠ .lockout) {snapshot : Byte} {header : List Byte}
  {frames : List (List Byte)}
include hm

theorem loadSnapshot_range
    (h : 3 < snapshot.toNat ∨ Snapshot.ofRecord? header frames = none) :
    loadSnapshot snapshot header frames s = refuse .range s := by
  rw [loadSnapshot, unlessLocked_of_ne hm]
  rcases h with h | h
  · rw [snapshotId_none h]
  · rw [h]
    cases SnapshotId.ofByte? snapshot <;> rfl

/-- A record in form is taken by an EMPTY snapshot only (R124 checks 4, 5). -/
theorem loadSnapshot_formed {n : SnapshotId} {x : Snapshot} (hn : snapshot.toNat = n.val)
    (h : Snapshot.ofRecord? header frames = some x) :
    loadSnapshot snapshot header frames s =
      if s.engine.snapshots[n].state ≠ .empty then refuse .existsAlready s
      else accept (s.putSnapshot n x) [] := by
  rw [loadSnapshot, unlessLocked_of_ne hm, snapshotId_some hn, h]

/-- Of a payload of the right length, a byte that names no value refuses LOAD_SNAPSHOT (R124 check
3). -/
theorem serveLoadSnapshot_badByte {p : List Byte}
    (hlen : (17 ≤ p.length && p.length = 17 + 14 * (p.getD 16 0).toNat) = true)
    (h : 1 < (p.getD 1 0).toNat ∨ ∃ k, k < (p.getD 16 0).toNat ∧
      (1 < (p.getD (17 + 14 * k) 0).toNat ∨ 31 < (p.getD (17 + 14 * k + 1) 0).toNat ∨
        1 < (p.getD (17 + 14 * k + 5) 0).toNat ∨ 3 < (p.getD (17 + 14 * k + 9) 0).toNat)) :
    serveLoadSnapshot p s = refuse .range s := by
  rw [serveLoadSnapshot_of_length hlen]
  refine loadSnapshot_range hm (Or.inr ?_)
  rcases h with hmode | ⟨k, hk, hframe⟩
  · exact ofRecord?_none_of_header (ofHeader?_none (by rwa [getD_piece p 1 (by omega)])) _
  · refine ofRecord?_none_of_frames (snapFramesOf?_none (mem_pieces hk _)
      (snapFrame_ofBytes?_none ?_)) _
    simp only [List.drop_drop, getD_piece p _ (show 0 < 14 by omega),
      getD_piece p _ (show 1 < 14 by omega), getD_piece p _ (show 5 < 14 by omega),
      getD_piece p _ (show 9 < 14 by omega), Nat.add_zero]
    exact hframe

end

/-! ## DISCARD_SNAPSHOT (R125) -/

section
variable {s : State} (hm : s.engine.mode ≠ .lockout) {snapshot : Byte}
include hm

theorem discardSnapshot_range (h : 3 < snapshot.toNat) :
    discardSnapshot snapshot s = refuse .range s := by
  rw [discardSnapshot, unlessLocked_of_ne hm, snapshotId_none h]

theorem discardSnapshot_accept {n : SnapshotId} (hn : snapshot.toNat = n.val) :
    discardSnapshot snapshot s =
      accept (s.putSnapshot n Snapshot.none) [s.engine.snapshots[n].state.code] := by
  rw [discardSnapshot, unlessLocked_of_ne hm, snapshotId_some hn]

end

/-- Settles O44: READ_SNAPSHOT writes `Snapshot.bytes`; LOAD_SNAPSHOT reads its header and its frames
back, and refuses what names no value; DISCARD_SNAPSHOT's checks one after another. -/
theorem snapshotsAreReadLoadedAndDiscarded : Obligations.SnapshotsAreReadLoadedAndDiscarded := by
  unfold Obligations.SnapshotsAreReadLoadedAndDiscarded
  refine ⟨?_, fun r s snapshot hpayload hs => ?_⟩
  · intro layout
    have hlayout : Snapshot.bytes = layout := rfl
    rw [← hlayout]
    refine ⟨?_, ?_, ?_⟩
    · intro r s snapshot hpayload hs
      have hbody : serveReadSnapshot (r.frame Kind.readSnapshot).payload s =
          readSnapshot snapshot s := by rw [Req.frame, hpayload, serveReadSnapshot]
      refine ⟨fun hrange => exec_of_refuse rfl rfl rfl hs ?_,
        fun n hn => exec_of_accept rfl rfl rfl hs ?_⟩
      · rw [hbody, readSnapshot, snapshotId_none hrange]
      · rw [hbody, readSnapshot, snapshotId_some hn]
    · intro r s hs hm hfit at' hbad
      exact exec_of_refuse rfl rfl rfl hs (serveLoadSnapshot_badByte hm hfit hbad)
    · intro r s snapshot x hpayload hs hm hcount hoptions hfailing hframes formed
      have hbody : serveLoadSnapshot (r.frame Kind.loadSnapshot).payload s =
          loadSnapshot snapshot x.headerBytes (x.frames.map SnapFrame.bytes) s := by
        rw [Req.frame, hpayload, serveLoadSnapshot_bytes hcount]
      have hfits : x.Fits := ⟨hoptions, hfailing, fun f hf => ⟨(hframes f hf).1, (hframes f hf).2⟩⟩
      refine ⟨fun hrange => exec_of_refuse rfl rfl rfl hs ?_, fun n hn hformed =>
        ⟨fun hfull => exec_of_refuse rfl rfl rfl hs ?_,
          fun hempty => exec_of_accept rfl rfl rfl hs ?_⟩⟩
      · exact hbody.trans (loadSnapshot_range hm (hrange.imp_right (ofRecord?_bytes_none hfits)))
      · rw [hbody, loadSnapshot_formed hm hn (ofRecord?_bytes hfits hformed), if_pos hfull]
      · rw [hbody, loadSnapshot_formed hm hn (ofRecord?_bytes hfits hformed),
          if_neg (not_not.2 hempty)]
        rfl
  · have hbody : serveDiscardSnapshot (r.frame Kind.discardSnapshot).payload s =
        discardSnapshot snapshot s := by rw [Req.frame, hpayload, serveDiscardSnapshot]
    exact ⟨fun hm => exec_of_refuse rfl rfl rfl hs (hbody.trans (unlessLocked_lockout hm _)),
      fun hm hrange => exec_of_refuse rfl rfl rfl hs
        (hbody.trans (discardSnapshot_range hm hrange)),
      fun n hm hn => exec_of_accept rfl rfl rfl hs (hbody.trans (discardSnapshot_accept hm hn))⟩

end Sys2Proof.Machine
end

section
/-! SUPPORT. What a strobe does to the counts of the lanes, whatever the fail log holds (R129, R130,
R138). -/

namespace Sys2Proof.Machine

open Safety

/-! ## The checker after a strobe, but for the log -/

section
variable (m f o : LaneSet) (s : State)

/-- The counts and the quarantine set before the limit do not depend on what the log holds. -/
theorem beforeLockout_checker_frame :
    (beforeLockout m f o s).checker =
      { s.checker.counted s.drives m f with
        quarantine := withLanes s.checker.quarantine (quarantinedLanes m f s)
        failLog := (beforeLockout m f o s).checker.failLog
        logOverflow := (beforeLockout m f o s).checker.logOverflow } := by
  have hquarantine : (countedAndLogged m f o s).checker.quarantine = s.checker.quarantine := by
    rw [countedAndLogged_checker_frame, Checker.counted]
  rw [beforeLockout, quarantineFold_checker, hquarantine, countedAndLogged_checker,
    foldl_log_withQuarantine, ← List.foldl_append, foldl_log_frame]

/-- LOCKOUT leaves the checker as the strobe's quarantines left it (R97). -/
theorem judge_checker_beforeLockout :
    (judge m f o s).checker = (beforeLockout m f o s).checker := by
  rw [judge_eq]
  split
  · rw [enterLockout_checker, runEnd_checker]
  · rfl

theorem judge_mismatchCounts (n : Lane) :
    (judge m f o s).checker.mismatchCounts[n] =
      if hasLane m n then min (s.checker.mismatchCounts[n] + 1) 255
      else s.checker.mismatchCounts[n] := by
  rw [judge_checker_beforeLockout, beforeLockout_checker_frame]
  simp [Checker.counted, Checker.countMismatches, Config.maxMismatch]

theorem judge_faultCounts (n : Lane) :
    (judge m f o s).checker.faultCounts[n] =
      if hasLane f n then min (s.checker.faultCounts[n] + 1) 15
      else if s.drives n then 0
      else s.checker.faultCounts[n] := by
  rw [judge_checker_beforeLockout, beforeLockout_checker_frame]
  simp [Checker.counted, Checker.countFaults, Config.maxFault]

end

/-! ## The counts of the lanes (R129, R130) -/

theorem drives_iff (s : State) (n : Lane) : s.drives n = true ↔ LaneDriven s n := by
  simp [State.drives, LaneDriven, and_assoc]

section
variable (a : Assembly) (r : Option VectorRec) (s : State) (map : Lanes (Option NetEntry))
  (n : Lane)

theorem checkStrobe_mismatchCounts :
    (checkStrobe a r (atStrobe s map)).checker.mismatchCounts[n] =
      if s.mismatch a r n then min (s.checker.mismatchCounts[n] + 1) 255
      else s.checker.mismatchCounts[n] := by
  rw [checkStrobe_atStrobe rfl rfl rfl, judge_mismatchCounts, State.mismatchSet,
    hasLane_lanesWhere]
  rfl

theorem checkStrobe_faultCounts :
    (checkStrobe a r (atStrobe s map)).checker.faultCounts[n] =
      if s.faulty a n then min (s.checker.faultCounts[n] + 1) 15
      else if s.drives n then 0
      else s.checker.faultCounts[n] := by
  rw [checkStrobe_atStrobe rfl rfl rfl, judge_faultCounts, State.faultSet, hasLane_lanesWhere]
  rfl

end

/-- Settles O45: a strobe's counts are `judge_mismatchCounts` and `judge_faultCounts`, read at the
lanes that the state before it has as mismatches and faults. -/
theorem strobeCountsMismatchesAndFaults : Obligations.StrobeCountsMismatchesAndFaults := by
  unfold Obligations.StrobeCountsMismatchesAndFaults
  refine ⟨fun a s v hdue hrecord => ⟨_, execStrobe_due hdue a, fun n => ?_⟩, fun a s => ?_⟩
  · rw [hrecord, checkStrobe_mismatchCounts, ← mismatch_iff]
    exact ⟨fun h => if_pos h, fun h => if_neg h⟩
  · intro counted
    have hcounted (r : Option VectorRec) (map : Lanes (Option NetEntry)) :
        counted (checkStrobe a r (atStrobe s map)) := by
      intro n
      rw [checkStrobe_faultCounts, ← faulty_iff, ← drives_iff]
      refine ⟨fun h => if_pos h, fun hdriven hfault => (if_neg hfault).trans (if_pos hdriven),
        fun hdriven => ?_⟩
      have hfault : ¬ s.faulty a n = true := fun h =>
        hdriven ((drives_iff s n).2 ((faulty_iff s a n).1 h).1)
      exact (if_neg hfault).trans (if_neg hdriven)
    refine ⟨fun hdue => ⟨_, execStrobe_due hdue a, hcounted _ _⟩, fun hdue => ?_⟩
    obtain ⟨map, hmap⟩ := writeEntry_reachStrobe a s
    refine ⟨_, execSurveyStrobe_due hdue a, ?_⟩
    rw [hmap]
    exact ⟨hcounted none map, Vector.ext fun i hi =>
      checkStrobe_mismatchCounts a none s map ⟨i, hi⟩⟩

end Sys2Proof.Machine
end

section
/-! SUPPORT. The checker's laws through what a run does: the limit outside LOCKOUT, the log's 64
records and the bounds of the counts, each kept on its own (R116, R128, R134, R137). -/

namespace Sys2Proof.Machine

open Safety

/-! ## The laws of the checker alone -/

/-- The counts lie in their ranges (R128, R134). -/
def Checker.InRange (c : Checker) : Prop :=
  (∀ n : Lane, c.mismatchCounts[n] ≤ 255 ∧ c.faultCounts[n] ≤ 15) ∧ c.failingSteps ≤ 65535

/-- From `c` to `d` each of the checker's laws is kept on its own, whatever the engine state. -/
structure Checker.Keeps (c d : Checker) : Prop where
  limit  : 1 ≤ c.quarantineLimit → 1 ≤ d.quarantineLimit
  below  : c.Below → d.Below
  log    : c.failLog.length ≤ 64 → d.failLog.length ≤ 64
  counts : c.InRange → d.InRange

theorem Checker.Keeps.refl (c : Checker) : c.Keeps c := ⟨id, id, id, id⟩

theorem Checker.Keeps.trans {c d e : Checker} (h : c.Keeps d) (k : d.Keeps e) : c.Keeps e :=
  ⟨k.limit ∘ h.limit, k.below ∘ h.below, k.log ∘ h.log, k.counts ∘ h.counts⟩

/-- A record handed to the log finds room or is discarded (R134). -/
theorem log_keeps (c : Checker) (r : FailRec) : c.Keeps (c.log r) where
  limit h := by rwa [(log_settings c r).2]
  below h := log_below h r
  log h := by
    unfold Checker.log
    split
    next hroom =>
      rw [List.length_append, List.length_singleton]
      exact hroom
    · exact h
  counts h := by
    rw [log_frame]
    exact h

theorem foldl_log_keeps (rs : List FailRec) (c : Checker) : c.Keeps (rs.foldl Checker.log c) := by
  induction rs generalizing c with
  | nil => exact .refl c
  | cons r rs ih => exact (log_keeps c r).trans (ih _)

theorem clearLog_keeps (c : Checker) : c.Keeps c.clearLog :=
  ⟨id, id, fun _ => Nat.zero_le _, fun h => ⟨fun n => ⟨by simp [Checker.clearLog], (h.1 n).2⟩, h.2⟩⟩

/-- The failing-step count set to a value in range, as run starts and a resume set it (R79, R122). -/
theorem setFailing_keeps (c : Checker) {n : Nat} (hn : n ≤ 65535) (b : Bool) :
    c.Keeps { c with failingSteps := n, firstFailNotified := b } :=
  ⟨id, id, id, fun h => ⟨h.1, hn⟩⟩

theorem startRun_keeps (c : Checker) (clear : Bool) : c.Keeps (c.startRun clear) := by
  have hstart := setFailing_keeps c (Nat.zero_le 65535) false
  cases clear with
  | true => exact hstart.trans (clearLog_keeps _)
  | false => exact hstart

theorem startSurvey_keeps (c : Checker) (clear : Bool) : c.Keeps (c.startSurvey clear) := by
  cases clear with
  | true => exact (clearLog_keeps c).trans (setFailing_keeps _ (Nat.zero_le 65535) false)
  | false => exact ⟨id, id, id, id⟩

/-! ## The three laws of the state -/

/-- The failing-step counts that the snapshots hold lie in their range (R116). -/
def Engine.SavedInRange (e : Engine) : Prop :=
  ∀ n : SnapshotId, e.snapshots[n].failingSteps ≤ 65535

theorem countLaw_iff (s : State) : CountLaw s ↔ s.checker.InRange ∧ s.engine.SavedInRange :=
  and_assoc.symm

/-- From `s` to `t` each of the checker's three laws is kept, on its own. -/
structure KeepsChecker (s t : State) : Prop where
  quarantine : QuarantineLaw s → QuarantineLaw t
  log        : LogLaw s → LogLaw t
  counts     : CountLaw s → CountLaw t

theorem KeepsChecker.refl (s : State) : KeepsChecker s s := ⟨id, id, id⟩

theorem KeepsChecker.trans {s t u : State} (h : KeepsChecker s t) (k : KeepsChecker t u) :
    KeepsChecker s u :=
  ⟨k.quarantine ∘ h.quarantine, k.log ∘ h.log, k.counts ∘ h.counts⟩

/-- A checker that keeps its laws, the snapshots kept, and no way out of LOCKOUT. -/
theorem KeepsChecker.of_checker {s t : State} (hc : s.checker.Keeps t.checker)
    (hsnap : t.engine.snapshots = s.engine.snapshots)
    (hm : s.engine.mode = .lockout → t.engine.mode = .lockout) : KeepsChecker s t where
  quarantine h := ⟨hc.limit h.1, fun ht => hc.below (h.2 (mt hm ht))⟩
  log := hc.log
  counts h := by
    obtain ⟨hcounts, hsaved⟩ := (countLaw_iff s).1 h
    exact (countLaw_iff t).2 ⟨hc.counts hcounts, fun n => hsnap ▸ hsaved n⟩

/-- Outside LOCKOUT the limit holds before, so any engine state may follow. -/
theorem KeepsChecker.of_unlocked {s t : State} (hm : s.engine.mode ≠ .lockout)
    (hc : s.checker.Keeps t.checker) (hsnap : t.engine.snapshots = s.engine.snapshots) :
    KeepsChecker s t :=
  .of_checker hc hsnap fun h => absurd h hm

theorem KeepsChecker.of_eq {s t : State} (hc : t.checker = s.checker) (he : t.engine = s.engine) :
    KeepsChecker s t :=
  .of_checker (hc ▸ .refl _) (by rw [he]) fun h => by rw [he, h]

/-! ## What a run leaves alone -/

/-- `t` has the checker of `s`, and its snapshots. -/
structure SameFigures (s t : State) : Prop where
  checker   : t.checker = s.checker
  snapshots : t.engine.snapshots = s.engine.snapshots

theorem SameFigures.refl (s : State) : SameFigures s s := ⟨rfl, rfl⟩

theorem SameFigures.trans {s t u : State} (h : SameFigures s t) (k : SameFigures t u) :
    SameFigures s u :=
  ⟨k.checker.trans h.checker, k.snapshots.trans h.snapshots⟩

/-- Outside LOCKOUT, what leaves both alone keeps the three laws. -/
theorem SameFigures.keeps {s t : State} (h : SameFigures s t) (hm : s.engine.mode ≠ .lockout) :
    KeepsChecker s t :=
  .of_unlocked hm (h.checker ▸ .refl _) h.snapshots

theorem swapIfWaiting_sameFigures (m : SwapManner) (s : State) :
    SameFigures s (swapIfWaiting m s) := ⟨by simp, by simp⟩

theorem runEnd_sameFigures (c : StopCause) (s : State) : SameFigures s (runEnd c s) :=
  ⟨runEnd_checker c s, runEnd_snapshots c s⟩

theorem stepStart_sameFigures (s : State) : SameFigures s (stepStart s) := by
  obtain ⟨m, v, b, he⟩ := stepStart_engine s
  exact ⟨stepStart_checker s, by rw [he]⟩

/-- A step start leaves what the state before it has. -/
theorem SameFigures.stepStart {s t : State} (h : SameFigures s t) : SameFigures s (stepStart t) :=
  h.trans (stepStart_sameFigures t)

theorem startWaitingStep_sameFigures (s : State) : SameFigures s (startWaitingStep s) := by
  refine ⟨startWaitingStep_checker s, ?_⟩
  unfold startWaitingStep
  split
  · rw [beginStep_engine, consumeRelease_engine]
  · rfl

theorem settle_sameFigures (m : Moved) (s : State) : SameFigures s (settle m s) := by
  have hswap := swapIfWaiting_sameFigures .wrap s
  unfold settle
  split
  · exact ⟨rfl, rfl⟩
  · dsimp only
    split
    · exact hswap.trans (runEnd_sameFigures .complete _)
    · exact hswap.trans ⟨rfl, rfl⟩

theorem goOn_sameFigures (s : State) : SameFigures s (goOn s) := by
  unfold goOn
  split
  · exact stepStart_sameFigures s
  · exact .refl s

theorem takePending_sameFigures (x : Splice) (s : State) : SameFigures s (takePending x s) := by
  unfold takePending
  split
  · exact SameFigures.stepStart ⟨rfl, (pushed_keeps s.engine x).snapshots⟩
  · exact .refl s

theorem endMove_sameFigures (f : RunFrame) (s : State) : SameFigures s (endMove f s) := by
  unfold endMove
  split
  · exact (settle_sameFigures _ s).trans (takePending_sameFigures _ _)
  · split
    · have hlatch : SameFigures s (s.withEngine { s.engine with advanceLatch := false }) :=
        ⟨rfl, rfl⟩
      exact hlatch.trans ((settle_sameFigures _ _).trans (goOn_sameFigures _))
    · exact (settle_sameFigures _ s).trans (goOn_sameFigures _)

theorem rotationStepEnd_sameFigures (s : State) : SameFigures s (rotationStepEnd s) := by
  have hcount : SameFigures s (countStep s) := ⟨rfl, rfl⟩
  unfold rotationStepEnd
  dsimp only
  split
  · exact hcount.trans (runEnd_sameFigures _ _)
  · split
    · exact hcount.trans (endMove_sameFigures _ _)
    · exact hcount

theorem acceptSplice_sameFigures (x : Splice) (s : State) : SameFigures s (acceptSplice x s) := by
  have hpushed (m : EngineState) (r : Option VectorRec) : SameFigures s (pushedAtOnce m r x s) :=
    ⟨rfl, (pushed_keeps s.engine x).snapshots⟩
  unfold acceptSplice
  split
  · split
    · exact (hpushed .running _).stepStart
    · exact hpushed (.held .boundary) none
  · exact ⟨rfl, rfl⟩

theorem stopped_sameFigures (c : StopCause) (s : State) : SameFigures s (stopped c s) := by
  unfold stopped
  split
  · exact ⟨rfl, rfl⟩
  · exact runEnd_sameFigures c s

theorem released_sameFigures (s : State) : SameFigures s (released s) := by
  unfold released
  split
  · exact startWaitingStep_sameFigures s
  · exact ⟨rfl, rfl⟩

theorem continueFrom_sameFigures (o : HeldOrigin) (s : State) :
    SameFigures s (continueFrom o s) := by
  cases o with
  | running => exact ⟨rfl, rfl⟩
  | waiting =>
    unfold continueFrom
    dsimp only
    split
    · exact startWaitingStep_sameFigures s
    · exact ⟨rfl, rfl⟩
  | boundary =>
    exact SameFigures.stepStart (t := s.withEngine { s.engine with mode := .running }) ⟨rfl, rfl⟩

/-! ## Run starts, snapshots and the engine reset (R79, R100, R118, R122, R149) -/

theorem startRun_keepsChecker {s : State} (hm : s.engine.mode = .armed) :
    KeepsChecker s (startRun s) := by
  refine KeepsChecker.trans ?_ ((stepStart_sameFigures _).keeps (by nofun))
  exact .of_unlocked (by simp [hm]) (startRun_keeps _ _) rfl

theorem startSurvey_keepsChecker {s : State} (hm : s.engine.mode = .idle) (l : LaneSet)
    (t : TimingId) (n : Lane) : KeepsChecker s (startSurvey l t n s) :=
  .of_unlocked (by simp [hm]) (startSurvey_keeps _ _) rfl

/-- A snapshot written with a failing-step count in range (R116). -/
theorem putSnapshot_keepsChecker {s : State} (n : SnapshotId) {x : Snapshot}
    (hx : CountLaw s → x.failingSteps ≤ 65535) : KeepsChecker s (s.putSnapshot n x) where
  quarantine := id
  log := id
  counts h := by
    obtain ⟨hcounts, hsaved⟩ := (countLaw_iff s).1 h
    refine (countLaw_iff _).2 ⟨hcounts, fun m => ?_⟩
    by_cases hnm : n = m
    · rw [← hnm, putSnapshot_same]
      exact hx h
    · have hval : n.val ≠ m.val := fun hv => hnm (Fin.ext hv)
      simpa [State.putSnapshot, Vector.getElem_set, hval] using hsaved m

/-- A resume takes the failing-step count from its snapshot (R122). -/
theorem resumeRun_keepsChecker {s : State} (hm : s.engine.mode = .idle) (n : SnapshotId) :
    KeepsChecker s (resumeRun n s.engine.snapshots[n] s) := by
  refine KeepsChecker.trans (t := { s with
      engine := s.engine.resume s.engine.snapshots[n]
      checker := s.checker.resume s.engine.snapshots[n].failingSteps }) ⟨?_, id, fun h => ?_⟩
    ((putSnapshot_keepsChecker n fun _ => none_sound.failing).trans
      ((stepStart_sameFigures _).keeps nofun))
  · exact fun h => ⟨h.1, fun _ => h.2 (by simp [hm])⟩
  · obtain ⟨hcounts, hsaved⟩ := (countLaw_iff s).1 h
    exact (countLaw_iff _).2 ⟨(setFailing_keeps s.checker (hsaved n) _).counts hcounts, hsaved⟩

/-- The engine reset empties the quarantine set, the log and the counts (R146). -/
theorem resetBlocks_keepsChecker (s : State) : KeepsChecker s (resetBlocks s) where
  quarantine h := by
    refine ⟨h.1, fun _ => ?_⟩
    have hzero : (resetBlocks s).checker.quarantinedCount = 0 := laneCount_zero
    rw [hzero]
    exact h.1
  log _ := Nat.zero_le _
  counts h := by
    refine (countLaw_iff _).2 ⟨⟨fun n => ?_, Nat.zero_le _⟩, ((countLaw_iff s).1 h).2⟩
    simp [resetBlocks, Checker.engineReset, Checker.reset]

theorem engineReset_keepsChecker (s : State) : KeepsChecker s (engineReset s) := by
  unfold engineReset
  split
  next hl =>
    exact ((runEnd_sameFigures _ s).keeps (ne_lockout_of_isLive hl)).trans
      (resetBlocks_keepsChecker _)
  · exact resetBlocks_keepsChecker s

/-! ## The strobe (R129 to R137) -/

theorem judge_snapshots (m f o : LaneSet) (s : State) :
    (judge m f o s).engine.snapshots = s.engine.snapshots := by
  have hbefore : (beforeLockout m f o s).engine.snapshots = s.engine.snapshots := by
    rw [beforeLockout_engine]
  rw [judge_eq]
  split
  · rw [enterLockout_engine, runEnd_snapshots, hbefore]
  · exact hbefore

/-- A strobe that quarantines no lane leaves the set as it is; one that does stays below the limit
or ends in LOCKOUT (R137). -/
theorem judge_quarantineLaw (m f o : LaneSet) {s : State} (h : QuarantineLaw s) :
    QuarantineLaw (judge m f o s) := by
  have hlimit : (beforeLockout m f o s).checker.quarantineLimit = s.checker.quarantineLimit := by
    rw [beforeLockout_checker_frame, Checker.counted]
  rw [judge_eq]
  split
  · refine ⟨?_, fun hm => absurd ?_ hm⟩
    · rw [enterLockout_checker, runEnd_checker, hlimit]
      exact h.1
    · rw [enterLockout_engine, runEnd_engine]
      rfl
  next hunder =>
    refine ⟨hlimit ▸ h.1, fun hm => ?_⟩
    rw [beforeLockout_engine] at hm
    by_cases hlanes : quarantinedLanes m f s = []
    · have hset : (beforeLockout m f o s).checker.quarantine = s.checker.quarantine := by
        rw [beforeLockout_checker_frame, hlanes, withLanes_nil]
      exact below_congr (h.2 hm) hset hlimit
    · have hreached : ¬ (beforeLockout m f o s).checker.limitReached = true :=
        fun hr => hunder ⟨hlanes, hr⟩
      rw [Checker.limitReached, decide_eq_true_iff] at hreached
      exact Nat.lt_of_not_le hreached

theorem judge_logLaw (m f o : LaneSet) {s : State} (h : LogLaw s) : LogLaw (judge m f o s) := by
  rw [LogLaw, judge_checker h, List.length_take]
  exact Nat.min_le_left _ _

/-- Every count saturates (R129 to R131). -/
theorem judge_inRange (m f o : LaneSet) {s : State} (h : s.checker.InRange) :
    (judge m f o s).checker.InRange := by
  obtain ⟨hlanes, hfailing⟩ := h
  refine ⟨fun n => ⟨?_, ?_⟩, ?_⟩
  · rw [judge_mismatchCounts]
    split
    · exact Nat.min_le_right _ _
    · exact (hlanes n).1
  · rw [judge_faultCounts]
    split
    · exact Nat.min_le_right _ _
    · split
      · exact Nat.zero_le _
      · exact (hlanes n).2
  · rw [judge_checker_beforeLockout, beforeLockout_checker_frame, Checker.counted]
    dsimp only
    split
    · exact Nat.min_le_right _ _
    · exact hfailing

theorem judge_keepsChecker (m f o : LaneSet) (s : State) : KeepsChecker s (judge m f o s) where
  quarantine := judge_quarantineLaw m f o
  log := judge_logLaw m f o
  counts h := by
    obtain ⟨hcounts, hsaved⟩ := (countLaw_iff s).1 h
    exact (countLaw_iff _).2
      ⟨judge_inRange m f o hcounts, fun n => judge_snapshots m f o s ▸ hsaved n⟩

/-! ## The survey (R151 to R154) -/

theorem writeEntry_keepsChecker (a : Assembly) (s : State) : KeepsChecker s (writeEntry a s) := by
  unfold writeEntry
  split
  · exact .of_eq rfl rfl
  · exact .refl s

theorem surveyComplete_keepsChecker {s : State} (hm : s.engine.mode ≠ .lockout) :
    KeepsChecker s (surveyComplete s) := by
  unfold surveyComplete compareMaps
  rw [foldl_handRecord]
  refine .of_unlocked hm ?_ (runEnd_snapshots _ _)
  rw [runEnd_checker]
  exact foldl_log_keeps _ _

theorem surveyStepEnd_keepsChecker {s : State} (hm : s.engine.mode ≠ .lockout) :
    KeepsChecker s (surveyStepEnd s) := by
  have hcount : KeepsChecker s (countStep s) := .of_unlocked hm (.refl _) rfl
  refine hcount.trans ?_
  unfold surveyStepEnd
  dsimp only
  split
  · exact (runEnd_sameFigures _ _).keeps hm
  · split
    · exact .of_eq rfl rfl
    · exact surveyComplete_keepsChecker hm

end Sys2Proof.Machine
end

section
/-! SUPPORT. Every row keeps the checker's laws, and so does every step (R128, R134, R137). -/

namespace Sys2Proof.Machine

open Safety

/-! ## One block replaced -/

theorem withLink_keepsChecker (s : State) (l : Link) : KeepsChecker s (s.withLink l) :=
  .of_eq rfl rfl

theorem withOutput_keepsChecker (s : State) (o : Output) : KeepsChecker s (s.withOutput o) :=
  .of_eq rfl rfl

theorem withSurvey_keepsChecker (s : State) (v : Survey) : KeepsChecker s (s.withSurvey v) :=
  .of_eq rfl rfl

theorem withTrigger_keepsChecker (s : State) (t : Trigger) : KeepsChecker s (s.withTrigger t) :=
  .of_eq rfl rfl

/-- Of the engine only what no law of the checker depends on changes. -/
theorem withEngine_keepsChecker {s : State} {e : Engine} (hm : s.engine.mode ≠ .lockout)
    (he : e.snapshots = s.engine.snapshots) : KeepsChecker s (s.withEngine e) :=
  .of_unlocked hm (.refl _) he

/-- Another checker that keeps its laws, in the same engine state. -/
theorem withChecker_keepsChecker {s : State} {c : Checker} (h : s.checker.Keeps c) :
    KeepsChecker s (s.withChecker c) :=
  .of_checker h rfl id

/-! ## Checks -/

/-- Behind the check of LOCKOUT a request finds the limit holding. -/
theorem unlessLocked_keepsChecker {s : State} {k : Served}
    (h : s.engine.mode ≠ .lockout → KeepsChecker s k.1) : KeepsChecker s (unlessLocked s k).1 := by
  unfold unlessLocked
  split
  · exact .refl s
  next hm => exact h hm

/-- A check that refuses keeps what the request behind it keeps. -/
theorem guard_keepsChecker {c : Prop} [Decidable c] {s : State} {st : Status} {k : Served}
    (h : ¬ c → KeepsChecker s k.1) : KeepsChecker s (if c then refuse st s else k).1 := by
  split
  · exact .refl s
  next hc => exact h hc

/-- A request that its check accepts keeps what its work keeps. -/
theorem accept_keepsChecker {c : Prop} [Decidable c] {s t : State} {st : Status}
    {results : List Byte} (h : c → KeepsChecker s t) :
    KeepsChecker s (if c then accept t results else refuse st s).1 := by
  split
  next hc => exact h hc
  · exact .refl s

/-! ## The run engine (R76 to R90, R93, R100, R103) -/

theorem serveResetEngine_keepsChecker (p : List Byte) (s : State) :
    KeepsChecker s (serveResetEngine p s).1 := by
  unfold serveResetEngine
  split
  · exact engineReset_keepsChecker s
  · exact .refl s

theorem serveArm_keepsChecker (p : List Byte) (s : State) : KeepsChecker s (serveArm p s).1 := by
  unfold serveArm arm
  split
  · refine unlessLocked_keepsChecker fun hm => guard_keepsChecker fun _ => ?_
    split
    · exact .refl s
    · exact guard_keepsChecker fun _ => withEngine_keepsChecker hm rfl
  · exact .refl s

theorem serveDisarm_keepsChecker (p : List Byte) (s : State) :
    KeepsChecker s (serveDisarm p s).1 := by
  unfold serveDisarm disarm
  split
  · exact unlessLocked_keepsChecker fun hm => accept_keepsChecker fun _ =>
      withEngine_keepsChecker hm rfl
  · exact .refl s

theorem serveStart_keepsChecker (p : List Byte) (s : State) :
    KeepsChecker s (serveStart p s).1 := by
  unfold serveStart start
  split
  · exact unlessLocked_keepsChecker fun _ => accept_keepsChecker startRun_keepsChecker
  · exact .refl s

theorem serveStop_keepsChecker (p : List Byte) (s : State) : KeepsChecker s (serveStop p s).1 := by
  unfold serveStop stop
  split
  · exact unlessLocked_keepsChecker fun hm => guard_keepsChecker fun _ =>
      (stopped_sameFigures _ s).keeps hm
  · exact .refl s

theorem serveHold_keepsChecker (p : List Byte) (s : State) : KeepsChecker s (serveHold p s).1 := by
  unfold serveHold hold
  split
  · refine unlessLocked_keepsChecker fun hm => ?_
    split
    · exact withEngine_keepsChecker hm rfl
    · exact accept_keepsChecker fun _ => withEngine_keepsChecker hm rfl
  · exact .refl s

theorem serveContinueRun_keepsChecker (p : List Byte) (s : State) :
    KeepsChecker s (serveContinueRun p s).1 := by
  unfold serveContinueRun continueRun
  split
  · refine unlessLocked_keepsChecker fun hm => ?_
    split
    · exact (continueFrom_sameFigures _ s).keeps hm
    · exact .refl s
  · exact .refl s

theorem serveRelease_keepsChecker (p : List Byte) (s : State) :
    KeepsChecker s (serveRelease p s).1 := by
  unfold serveRelease release
  split
  · exact unlessLocked_keepsChecker fun hm => accept_keepsChecker fun _ =>
      (released_sameFigures s).keeps hm
  · exact .refl s

theorem serveAdvance_keepsChecker (p : List Byte) (s : State) :
    KeepsChecker s (serveAdvance p s).1 := by
  unfold serveAdvance advance
  split
  · exact unlessLocked_keepsChecker fun hm => accept_keepsChecker fun _ =>
      withEngine_keepsChecker hm rfl
  · exact .refl s

/-- The gate of a splice refuses in LOCKOUT (R103 check 1). -/
theorem ne_lockout_of_spliceGate {s : State} (h : s.spliceGate = none) :
    s.engine.mode ≠ .lockout := fun hm => by
  rw [spliceGate_lockout hm] at h
  cases h

theorem serveSplice_keepsChecker (p : List Byte) (s : State) :
    KeepsChecker s (serveSplice p s).1 := by
  unfold serveSplice splice
  split
  · split
    · exact .refl s
    next hgate =>
      split
      · dsimp only
        split
        · exact .refl s
        · exact (acceptSplice_sameFigures _ s).keeps (ne_lockout_of_spliceGate hgate)
      · exact .refl s
  · exact .refl s

/-! ## Snapshots (R117 to R125) and the survey (R148) -/

theorem serveSuspend_keepsChecker (p : List Byte) (s : State) :
    KeepsChecker s (serveSuspend p s).1 := by
  unfold serveSuspend suspend
  split
  · refine unlessLocked_keepsChecker fun hm => guard_keepsChecker fun _ => ?_
    split
    · exact .refl s
    · refine guard_keepsChecker fun _ => ?_
      exact (putSnapshot_keepsChecker _ fun h => ((countLaw_iff s).1 h).1.2).trans
        ((runEnd_sameFigures .suspended _).keeps hm)
  · exact .refl s

theorem serveResume_keepsChecker (p : List Byte) (s : State) :
    KeepsChecker s (serveResume p s).1 := by
  unfold serveResume resume
  split
  · refine unlessLocked_keepsChecker fun _ => guard_keepsChecker fun hidle => ?_
    split
    · exact .refl s
    refine guard_keepsChecker fun _ => ?_
    split
    · exact .refl s
    · exact resumeRun_keepsChecker (not_not.1 hidle) _
  · exact .refl s

theorem serveLoadSnapshot_keepsChecker (p : List Byte) (s : State) :
    KeepsChecker s (serveLoadSnapshot p s).1 := by
  unfold serveLoadSnapshot loadSnapshot
  dsimp only
  split
  · refine unlessLocked_keepsChecker fun _ => ?_
    split
    · exact .refl s
    split
    · exact .refl s
    next hx =>
      exact guard_keepsChecker fun _ =>
        putSnapshot_keepsChecker _ fun _ => (ofRecord_sound hx).failing
  · exact .refl s

theorem serveDiscardSnapshot_keepsChecker (p : List Byte) (s : State) :
    KeepsChecker s (serveDiscardSnapshot p s).1 := by
  unfold serveDiscardSnapshot discardSnapshot
  split
  · refine unlessLocked_keepsChecker fun _ => ?_
    split
    · exact .refl s
    · exact putSnapshot_keepsChecker _ fun _ => none_sound.failing
  · exact .refl s

theorem serveSurvey_keepsChecker (p : List Byte) (s : State) :
    KeepsChecker s (serveSurvey p s).1 := by
  unfold serveSurvey survey
  split
  · refine unlessLocked_keepsChecker fun _ => guard_keepsChecker fun hidle => ?_
    split
    · exact .refl s
    split
    · exact startSurvey_keepsChecker (not_not.1 hidle) _ _ _
    · exact .refl s
  · exact .refl s

/-! ## The checker's own requests (R139 to R142) -/

/-- SET_CHECK refuses a limit of 0, and one that the quarantined count has reached (R139). -/
theorem serveSetCheck_keepsChecker (p : List Byte) (s : State) :
    KeepsChecker s (serveSetCheck p s).1 := by
  unfold serveSetCheck setCheck
  split
  · refine unlessLocked_keepsChecker fun _ => guard_keepsChecker fun _ => ?_
    split
    · exact .refl s
    · refine guard_keepsChecker fun hrange => ?_
      simp only [Bool.or_eq_true, decide_eq_true_eq, not_or, Nat.not_lt, Nat.not_le] at hrange
      obtain ⟨⟨⟨-, hlimit⟩, -⟩, hbelow⟩ := hrange
      exact withChecker_keepsChecker ⟨fun _ => hlimit, fun _ => hbelow, id, id⟩
  · exact .refl s

theorem clearLanes_inRange {c : Checker} (h : c.InRange) (l : LaneSet) :
    (c.clearLanes l).InRange := by
  obtain ⟨hlanes, hfailing⟩ := h
  have hfaults (n : Lane) : (c.clearLanes l).faultCounts[n] ≤ 15 := by
    simp only [Checker.clearLanes, Fin.getElem_fin, Vector.getElem_ofFn]
    split
    · exact Nat.zero_le _
    · exact (hlanes n).2
  refine ⟨fun n => ⟨?_, hfaults n⟩, ?_⟩ <;> dsimp only [Checker.clearLanes]
  · exact (hlanes n).1
  · exact hfailing

theorem clearLanes_keeps (c : Checker) (l : LaneSet) : c.Keeps (c.clearLanes l) := by
  refine ⟨fun h => ?_, fun h => clearLanes_below h l, fun h => ?_, fun h => clearLanes_inRange h l⟩
    <;> dsimp only [Checker.clearLanes]
  · exact h
  · exact h

theorem serveClearLane_keepsChecker (p : List Byte) (s : State) :
    KeepsChecker s (serveClearLane p s).1 := by
  unfold serveClearLane clearLane
  split
  · exact unlessLocked_keepsChecker fun _ => guard_keepsChecker fun _ =>
      withChecker_keepsChecker (clearLanes_keeps _ _)
  · exact .refl s

/-- Records only leave the log (R141). -/
theorem dropFails_keeps (c : Checker) (max : Nat) : c.Keeps (c.dropFails max) where
  limit := id
  below := id
  log h := Nat.le_trans (List.drop_sublist max c.failLog).length_le h
  counts := id

theorem serveReadFails_keepsChecker (p : List Byte) (s : State) :
    KeepsChecker s (serveReadFails p s).1 := by
  unfold serveReadFails readFails
  split
  · exact guard_keepsChecker fun _ => withChecker_keepsChecker (dropFails_keeps _ _)
  · exact .refl s

theorem clearMismatches_keeps (c : Checker) :
    c.Keeps { c with mismatchCounts := Vector.replicate 24 0 } :=
  ⟨id, id, id, fun h => ⟨fun n => ⟨by simp, (h.1 n).2⟩, h.2⟩⟩

theorem serveReadCounts_keepsChecker (p : List Byte) (s : State) :
    KeepsChecker s (serveReadCounts p s).1 := by
  unfold serveReadCounts readCounts
  split
  · exact withChecker_keepsChecker (clearMismatches_keeps _)
  · exact .refl s

/-! ## Requests that write the lanes or the reference map -/

theorem serveStageStatic_keepsChecker (p : List Byte) (s : State) :
    KeepsChecker s (serveStageStatic p s).1 := by
  unfold serveStageStatic stageStatic
  split
  · exact unlessLocked_keepsChecker fun _ => guard_keepsChecker fun _ => withOutput_keepsChecker s _
  · exact .refl s

theorem serveApplyStatic_keepsChecker (p : List Byte) (s : State) :
    KeepsChecker s (serveApplyStatic p s).1 := by
  unfold serveApplyStatic applyStatic
  split
  · exact unlessLocked_keepsChecker fun _ => guard_keepsChecker fun _ => withOutput_keepsChecker s _
  · exact .refl s

theorem serveLoadReference_keepsChecker (p : List Byte) (s : State) :
    KeepsChecker s (serveLoadReference p s).1 := by
  unfold serveLoadReference loadReference
  split
  · refine unlessLocked_keepsChecker fun _ => guard_keepsChecker fun _ => ?_
    split
    · exact .refl s
    · exact withSurvey_keepsChecker s _
  · exact .refl s

theorem serveAdoptReference_keepsChecker (p : List Byte) (s : State) :
    KeepsChecker s (serveAdoptReference p s).1 := by
  unfold serveAdoptReference adoptReference
  split
  · exact unlessLocked_keepsChecker fun _ => guard_keepsChecker fun _ => guard_keepsChecker fun _ =>
      withSurvey_keepsChecker s _
  · exact .refl s

/-! ## Every request -/

/-- Every request's body keeps the three laws: those above by their own lemmas, and the others
because no branch of theirs touches the checker or the engine. -/
theorem body_keepsChecker {i : Instr} {body : List Byte → State → Served}
    (hb : bodyOf i = some body) (p : List Byte) (s : State) : KeepsChecker s (body p s).1 := by
  cases i <;> cases hb
  case resetEngine => exact serveResetEngine_keepsChecker p s
  case arm => exact serveArm_keepsChecker p s
  case disarm => exact serveDisarm_keepsChecker p s
  case start => exact serveStart_keepsChecker p s
  case stop => exact serveStop_keepsChecker p s
  case hold => exact serveHold_keepsChecker p s
  case continueRun => exact serveContinueRun_keepsChecker p s
  case release => exact serveRelease_keepsChecker p s
  case advance => exact serveAdvance_keepsChecker p s
  case splice => exact serveSplice_keepsChecker p s
  case suspend => exact serveSuspend_keepsChecker p s
  case resume => exact serveResume_keepsChecker p s
  case loadSnapshot => exact serveLoadSnapshot_keepsChecker p s
  case discardSnapshot => exact serveDiscardSnapshot_keepsChecker p s
  case survey => exact serveSurvey_keepsChecker p s
  case setCheck => exact serveSetCheck_keepsChecker p s
  case clearLane => exact serveClearLane_keepsChecker p s
  case readFails => exact serveReadFails_keepsChecker p s
  case readCounts => exact serveReadCounts_keepsChecker p s
  case stageStatic => exact serveStageStatic_keepsChecker p s
  case applyStatic => exact serveApplyStatic_keepsChecker p s
  case loadReference => exact serveLoadReference_keepsChecker p s
  case adoptReference => exact serveAdoptReference_keepsChecker p s
  all_goals
    simp only [serveStatus, servePosition, serveNoticeMask, serveSetBank, serveSetIdlePolicy,
      serveReadLanes, serveDefinePattern, serveDefineGenerator, serveWriteVectors, serveReadVectors,
      serveDeletePattern, serveListPatterns, serveSetTiming, serveReadTiming, serveEditSlot,
      serveSetSlotCount, serveReadRotation, serveCommitRotation, serveWithdrawCommit,
      serveReadSnapshot, serveReadNetMap, serveClearReference, serveSetTrigger, serveCapture,
      serveReadCapture, status, noticeMask, setBank, setIdlePolicy, readLanes, definePattern,
      defineGenerator, writeVectors, readVectors, deletePattern, listPatterns, setTiming, readTiming,
      editSlot, setSlotCount, readRotation, commitRotation, withdrawCommit, readSnapshot,
      clearReference, setTrigger, setSpliceTrigger, writeTrigger, capture, unlessLocked]
    repeat' split
    all_goals exact .of_eq rfl rfl

/-! ## Every row -/

/-- A request row keeps what its work keeps. -/
theorem serveFrame_keepsChecker {work : State → State} (h : ∀ t, KeepsChecker t (work t))
    (f : LinkFrame) (s : State) : KeepsChecker s (serveFrame f work s) := by
  rcases serveFrame_cases s f work with e | e | ⟨e, -⟩ <;> rw [e]
  · exact .refl s
  · exact .of_eq rfl rfl
  · exact KeepsChecker.trans (.of_eq (State.submit_checker s f) (State.submit_engine s f)) (h _)

/-- A request answered at once keeps what its body keeps. -/
theorem serveRequest_keepsChecker {body : List Byte → State → Served}
    (h : ∀ p t, KeepsChecker t (body p t).1) (f : LinkFrame) (s : State) :
    KeepsChecker s (serveRequest f body s) :=
  serveFrame_keepsChecker (fun t => (h f.payload t).trans (withLink_keepsChecker _ _)) f s

theorem packStore_keepsChecker (f : LinkFrame) (s : State) : KeepsChecker s (packStore f s) := by
  unfold packStore
  repeat' split
  all_goals exact .of_eq rfl rfl

theorem fullReset_keepsChecker (straps : BitVec 2) (s : State) :
    KeepsChecker s (fullReset straps s) :=
  ⟨fun _ => lawfulAtReset.quarantine, fun _ => lawfulAtReset.log, fun _ => lawfulAtReset.counts⟩

/-- An event that occurs or leaves the state as it is keeps what its occurrence keeps. -/
theorem ite_keepsChecker {c : Prop} [Decidable c] {s t : State} (h : c → KeepsChecker s t) :
    KeepsChecker s (if c then t else s) := by
  split
  next hc => exact h hc
  · exact .refl s

/-- A trigger row keeps what its action keeps. -/
theorem triggerRow_keepsChecker {act : State → State} (h : ∀ t, KeepsChecker t (act t))
    (input : TrigInput) (action : TrigAction) (s : State) :
    KeepsChecker s (triggerRow input action act s) :=
  ite_keepsChecker fun _ => (withTrigger_keepsChecker s _).trans (h _)

theorem captureAction_keepsChecker (input : TrigInput) (s : State) :
    KeepsChecker s (captureAction input s) := ite_keepsChecker fun _ => .of_eq rfl rfl

/-- A STOP action is taken in ARMED and in the live states, never in LOCKOUT (R93). -/
theorem stopAction_keepsChecker (s : State) : KeepsChecker s (stopAction s) := by
  refine ite_keepsChecker fun h => (stopped_sameFigures _ s).keeps fun hm => ?_
  simp [hm, EngineState.isLive] at h

theorem ne_lockout_of_rotationLive {e : Engine} (h : e.rotationLive = true) : e.mode ≠ .lockout :=
  ne_lockout_of_isLive (live_of_rotationLive h)

theorem releaseAction_keepsChecker (s : State) : KeepsChecker s (releaseAction s) := by
  refine ite_keepsChecker fun h => (released_sameFigures s).keeps ?_
  rw [Engine.takesRelease, Bool.and_eq_true] at h
  exact ne_lockout_of_rotationLive h.1

theorem advanceAction_keepsChecker (s : State) : KeepsChecker s (advanceAction s) :=
  ite_keepsChecker fun h => withEngine_keepsChecker (ne_lockout_of_rotationLive h) rfl

theorem spliceAction_keepsChecker (input : TrigInput) (x : Splice) (s : State) :
    KeepsChecker s (spliceAction input x s) := by
  unfold spliceAction State.spliceRefusal
  split
  · exact .of_eq rfl rfl
  next hnone =>
    split at hnone
    · cases hnone
    next hgate => exact (acceptSplice_sameFigures x s).keeps (ne_lockout_of_spliceGate hgate)

/-- An event of a run in RUNNING does not occur in LOCKOUT. -/
theorem ne_lockout_of_running {m : EngineState} (h : m = .running) : m ≠ .lockout := by
  simp [h]

/-- A row's outcome keeps what the state in it keeps. -/
theorem next_keepsChecker {s t u : State} (h : KeepsChecker s u)
    (e : (Host.Outcome.next u : Host.Outcome State Fault Refusal) = .next t) : KeepsChecker s t :=
  Host.Outcome.next.inj e ▸ h

/-- Every row answered at once keeps the three laws: by its body where its kind is well-formed, and
by not occurring otherwise. -/
theorem request_keepsChecker {i : Instr} {body : List Byte → State → Served} {s t : State}
    (hb : bodyOf i = some body) (h : exec i s = .next t) : KeepsChecker s t := by
  by_cases hk : i.kindWf = true
  · obtain ⟨f, hf⟩ := frame?_of_bodyOf hb
    rw [exec_eq_serveRequest hk hf hb] at h
    exact next_keepsChecker (serveRequest_keepsChecker (body_keepsChecker hb) f s) h
  · rw [exec_of_not_kindWf hk] at h
    exact next_keepsChecker (.refl s) h

/-- Every other row, an event or PACK_STORE, keeps the three laws. -/
theorem event_keepsChecker {i : Instr} {s t : State} (hb : bodyOf i = none)
    (h : exec i s = .next t) : KeepsChecker s t := by
  cases i <;> cases hb
  case fullReset straps => exact next_keepsChecker (fullReset_keepsChecker straps s) h
  case resetnDeasserted straps =>
    refine next_keepsChecker ?_ h
    split
    · exact .refl s
    · exact fullReset_keepsChecker straps s
  case startUpEnd =>
    refine next_keepsChecker ?_ h
    split
    · exact .refl s
    · exact .of_eq rfl rfl
  case frameComplete =>
    exact next_keepsChecker (ite_keepsChecker fun _ => withLink_keepsChecker s _) h
  case byteGapTimeout =>
    exact next_keepsChecker (ite_keepsChecker fun _ => withLink_keepsChecker s _) h
  case characterReceived =>
    exact next_keepsChecker (ite_keepsChecker fun _ => withLink_keepsChecker s _) h
  case frameSent => exact next_keepsChecker (withLink_keepsChecker s _) h
  case packStore =>
    exact next_keepsChecker (serveFrame_keepsChecker (packStore_keepsChecker _) _ s) h
  case packComplete =>
    revert h
    simp only [exec, execPackComplete]
    split
    · exact next_keepsChecker (.of_eq rfl rfl)
    · exact next_keepsChecker (.refl s)
  case triggerLevelChange =>
    exact next_keepsChecker (triggerRow_keepsChecker KeepsChecker.refl _ _ s) h
  case startTrigger =>
    exact next_keepsChecker
      (triggerRow_keepsChecker (fun _ => ite_keepsChecker startRun_keepsChecker) _ _ s) h
  case stopTrigger =>
    exact next_keepsChecker (triggerRow_keepsChecker stopAction_keepsChecker _ _ s) h
  case releaseTrigger =>
    exact next_keepsChecker (triggerRow_keepsChecker releaseAction_keepsChecker _ _ s) h
  case advanceTrigger =>
    exact next_keepsChecker (triggerRow_keepsChecker advanceAction_keepsChecker _ _ s) h
  case captureTrigger input =>
    exact next_keepsChecker (triggerRow_keepsChecker (captureAction_keepsChecker input) _ _ s) h
  case spliceTrigger input =>
    revert h
    simp only [exec, execSpliceTrigger]
    split
    · exact next_keepsChecker
        ((withTrigger_keepsChecker s _).trans (spliceAction_keepsChecker input _ _))
    · exact next_keepsChecker (.refl s)
  case strobe a =>
    have hreach : KeepsChecker s (reachStrobe s) := .of_eq rfl rfl
    exact next_keepsChecker (ite_keepsChecker fun _ => hreach.trans (judge_keepsChecker _ _ _ _)) h
  case stepEnd =>
    refine next_keepsChecker (ite_keepsChecker fun hdue => ?_) h
    obtain ⟨hm, -⟩ := (stepEnds_iff_stepEndDue s .rotation).1 hdue
    exact (rotationStepEnd_sameFigures s).keeps (ne_lockout_of_running hm)
  case waitTimeout =>
    refine next_keepsChecker (ite_keepsChecker fun hdue => ?_) h
    refine (runEnd_sameFigures _ s).keeps fun hm => ?_
    simp [hm] at hdue
  case surveyStrobe a =>
    have hreach : KeepsChecker s (reachStrobe s) := .of_eq rfl rfl
    exact next_keepsChecker (ite_keepsChecker fun _ =>
      hreach.trans ((writeEntry_keepsChecker a _).trans (judge_keepsChecker _ _ _ _))) h
  case surveyStepEnd =>
    refine next_keepsChecker (ite_keepsChecker fun hdue => ?_) h
    obtain ⟨hm, -⟩ := (stepEnds_iff_stepEndDue s .survey).1 hdue
    exact surveyStepEnd_keepsChecker (ne_lockout_of_running hm)

theorem exec_keepsChecker {i : Instr} {s t : State} (h : exec i s = .next t) :
    KeepsChecker s t := by
  cases hb : bodyOf i with
  | some body => exact request_keepsChecker hb h
  | none => exact event_keepsChecker hb h

/-! ## Every step -/

theorem tick_keepsChecker (s : State) : KeepsChecker s (tick s) := .of_eq rfl rfl

theorem step_keepsChecker {s t : State} (h : step s = .next t) : KeepsChecker s t := by
  unfold step at h
  split at h
  · exact next_keepsChecker (tick_keepsChecker s) h
  next rest _ =>
    have hqueue : KeepsChecker s (s.withPending rest) := .of_eq rfl rfl
    exact hqueue.trans (exec_keepsChecker h)

/-- Settles O58: a step is a tick or a row, and both keep the three laws, each on its own. -/
theorem stepKeepsTheCheckerLaws : Obligations.StepKeepsTheCheckerLaws := by
  unfold Obligations.StepKeepsTheCheckerLaws
  intro s t h
  obtain ⟨hquarantine, hlog, hcounts⟩ := step_keepsChecker h
  exact ⟨hquarantine, hlog, hcounts⟩

end Sys2Proof.Machine
end

section
/-! SUPPORT. The checker's requests: SET_CHECK, CLEAR_LANE, READ_FAILS and READ_COUNTS, and the bytes
of a fail record (R139 to R142, R177, R178). -/

namespace Sys2Proof.Machine

open Safety

/-! ## SET_CHECK (R139) -/

/-- The byte that names an action is its code (R177). -/
theorem quarantineAction_code {b : Byte} {act : QuarantineAction}
    (h : QuarantineAction.ofByte? b = some act) : act.code = b := by
  obtain ⟨hlt, hact⟩ := List.getElem?_eq_some_iff.1 h
  have hb : b = 0 ∨ b = 1 := by
    simp only [List.length_cons, List.length_nil] at hlt
    bv_omega
  rcases hb with rfl | rfl <;> exact hact ▸ rfl

section
variable {s : State} {threshold limit action : Byte}
  (hm : s.engine.mode = .idle ∨ s.engine.mode = .armed)
include hm

/-- SET_CHECK outside a run and LOCKOUT: RANGE where a value is out of its range, or the quarantined
count has reached the limit asked for. -/
theorem setCheck_range
    (h : threshold.toNat = 0 ∨ 15 < threshold.toNat ∨ limit.toNat = 0 ∨ 24 < limit.toNat ∨
      QuarantineAction.ofByte? action = none ∨ limit.toNat ≤ s.checker.quarantinedCount) :
    setCheck threshold limit action s = refuse .range s := by
  obtain ⟨hlive, hlock⟩ := not_live_of_idle_or_armed hm
  rw [setCheck, unlessLocked_of_ne hlock, if_neg (by simp [hlive])]
  split
  · rfl
  next act hact =>
    refine if_pos ?_
    simp only [hact, reduceCtorEq, false_or] at h
    simp only [Bool.or_eq_true, decide_eq_true_eq]
    omega

/-- SET_CHECK past its checks writes the three settings and replies them. -/
theorem setCheck_accept {act : QuarantineAction} (hlow : 1 ≤ threshold.toNat)
    (hhigh : threshold.toNat ≤ 15) (hlimit : limit.toNat ≤ 24)
    (hcount : s.checker.quarantinedCount < limit.toNat)
    (hact : QuarantineAction.ofByte? action = some act) :
    setCheck threshold limit action s =
      accept
        (s.withChecker
          { s.checker with
            faultThreshold := threshold.toNat
            quarantineLimit := limit.toNat
            quarantineAction := act })
        ([threshold, limit, action] ++ byte s.checker.quarantinedCount) := by
  obtain ⟨hlive, hlock⟩ := not_live_of_idle_or_armed hm
  rw [setCheck, unlessLocked_of_ne hlock, if_neg (by simp [hlive]), hact]
  dsimp only
  rw [if_neg (by simp only [Bool.or_eq_true, decide_eq_true_eq]; omega), Checker.settings]
  simp only [byte_toNat, quarantineAction_code hact]
  rfl

end

/-! ## CLEAR_LANE (R140) -/

theorem clearLane_accept {s : State} (hm : s.engine.mode = .idle ∨ s.engine.mode = .armed)
    (lanes : LaneSet) :
    clearLane lanes s =
      accept (s.withChecker (s.checker.clearLanes lanes))
        (bytesL (s.checker.clearLanes lanes).quarantine) := by
  obtain ⟨hlive, hlock⟩ := not_live_of_idle_or_armed hm
  rw [clearLane, unlessLocked_of_ne hlock, if_neg (by simp [hlive])]

theorem clearLane_live {s : State} (hm : s.engine.mode.isLive = true) (lanes : LaneSet) :
    clearLane lanes s = refuse .state s := by
  rw [clearLane, unlessLocked_of_ne (ne_lockout_of_isLive hm), if_pos hm]

theorem hasLane_clearLanes (c : Checker) (lanes : LaneSet) (n : Lane) :
    hasLane (c.clearLanes lanes).quarantine n = (hasLane c.quarantine n && !hasLane lanes n) := by
  rw [Checker.clearLanes, hasLane_and, hasLane_not]

theorem clearLanes_faultCounts (c : Checker) (lanes : LaneSet) (n : Lane) :
    (c.clearLanes lanes).faultCounts[n] = if hasLane lanes n then 0 else c.faultCounts[n] := by
  simp [Checker.clearLanes]

/-- Settles O47: SET_CHECK's checks and what it writes; CLEAR_LANE's checks, and its two writes lane
by lane. -/
theorem checkerSettingsAndQuarantineAreWritten :
    Obligations.CheckerSettingsAndQuarantineAreWritten := by
  unfold Obligations.CheckerSettingsAndQuarantineAreWritten
  refine ⟨fun r s threshold limit action hpayload hs hm => ?_,
    fun r s l2 l1 l0 hpayload hs => ⟨fun hm => ?_, fun hm => ?_, fun hm => ?_⟩⟩
  · have hbody : serveSetCheck (r.frame Kind.setCheck).payload s =
        setCheck threshold limit action s := by rw [Req.frame, hpayload, serveSetCheck]
    exact ⟨fun hbad => exec_of_refuse rfl rfl rfl hs (hbody.trans (setCheck_range hm hbad)),
      fun act hlow hhigh hlimit hcount hact => exec_of_accept rfl rfl rfl hs
        (hbody.trans (setCheck_accept hm hlow hhigh hlimit hcount hact))⟩
  all_goals
    have hbody : serveClearLane (r.frame Kind.clearLane).payload s =
        clearLane (laneSet3 l2 l1 l0) s := by rw [Req.frame, hpayload, serveClearLane]
  · exact exec_of_refuse rfl rfl rfl hs (hbody.trans (unlessLocked_lockout hm _))
  · exact exec_of_refuse rfl rfl rfl hs (hbody.trans (clearLane_live hm _))
  · exact ⟨_, _, exec_of_accept rfl rfl rfl hs (hbody.trans (clearLane_accept hm _)),
      fun n => ⟨hasLane_clearLanes _ _ n, clearLanes_faultCounts _ _ n⟩⟩

/-! ## READ_FAILS (R141) -/

theorem readFails_range {s : State} {max : Byte} (h : max.toNat = 0 ∨ 8 < max.toNat) :
    readFails max s = refuse .range s := by
  refine if_pos ?_
  simp only [Bool.or_eq_true, decide_eq_true_eq]
  omega

/-- A log cut where READ_FAILS cuts it: at the number asked for, or at its end (R141). -/
theorem cut_of_oldest {α : Type} {log removed left : List α} {n : Nat}
    (hlog : log = removed ++ left)
    (h : removed.length = n ∨ (removed.length < n ∧ left = [])) :
    log.take n = removed ∧ log.drop n = left := by
  subst hlog
  rcases h with rfl | ⟨hshort, rfl⟩
  · exact ⟨List.take_left, List.drop_left⟩
  · rw [List.append_nil]
    exact ⟨List.take_of_length_le hshort.le, List.drop_of_length_le hshort.le⟩

theorem readFails_accept {s : State} {max : Byte} {removed left : List FailRec}
    (hlow : 1 ≤ max.toNat) (hhigh : max.toNat ≤ 8) (hlog : s.checker.failLog = removed ++ left)
    (h : removed.length = max.toNat ∨ (removed.length < max.toNat ∧ left = [])) :
    readFails max s =
      accept
        (s.withChecker
          { s.checker with
            failLog := left
            logOverflow := if left = [] then false else s.checker.logOverflow })
        (byte removed.length ++ removed.flatMap FailRec.bytes ++ byte left.length
          ++ [if s.checker.logOverflow then 1 else 0]) := by
  obtain ⟨htake, hdrop⟩ := cut_of_oldest hlog h
  have hflag : (s.checker.logOverflow && !left.isEmpty) =
      if left = [] then false else s.checker.logOverflow := by
    cases left <;> simp
  rw [readFails, if_neg (by simp only [Bool.or_eq_true, decide_eq_true_eq]; omega),
    Checker.dropFails, Checker.failResults, htake, hdrop, hflag]
  rfl

/-! ## A fail record (R178) -/

theorem failDetail_code_eq (d : FailDetail) :
    d.code =
      match d with
      | .stepFail _ _ => (0 : Byte)
      | .quarantine _ => 1
      | .openNet _ _ => 2
      | .shortNet _ _ => 3 := by
  cases d <;> rfl

/-- Offsets 10 to 17, the fields that a kind lacks all ones (R177). -/
theorem failDetail_bytes_eq (d : FailDetail) :
    d.bytes =
      match d with
      | .stepFail m f => bytesL m ++ bytesL f ++ [0xFF, 0xFF]
      | .quarantine n => List.replicate 6 0xFF ++ byte n.val ++ [0xFF]
      | .openNet d o => List.replicate 6 0xFF ++ byte d.val ++ byte o.val
      | .shortNet d o => List.replicate 6 0xFF ++ byte d.val ++ byte o.val := by
  cases d with
  | stepFail m f => exact List.append_assoc _ _ _
  | quarantine n => rfl
  | openNet d o => rfl
  | shortNet d o => rfl

theorem placeBytes_length (p : Option RunPlace) : (placeBytes p).length = 4 := by
  cases p <;> rfl

theorem failDetail_bytes_length (d : FailDetail) : d.bytes.length = 8 := by
  cases d <;> rfl

theorem failRec_bytes_length (x : FailRec) : x.bytes.length = 21 := by
  simp only [FailRec.bytes, List.length_append, placeBytes_length, failDetail_bytes_length]
  rfl

/-- Settles O48: READ_FAILS cuts the log at the number asked for or at its end; READ_COUNTS replies
`Checker.countResults`; a fail record's fields one after another. -/
theorem failsAndCountsAreReadAndCleared : Obligations.FailsAndCountsAreReadAndCleared := by
  unfold Obligations.FailsAndCountsAreReadAndCleared
  refine ⟨fun r s max hpayload hs => ?_, fun r s hpayload hs => exec_of_accept rfl rfl rfl hs ?_,
    fun x => ⟨failRec_bytes_length x, ?_⟩⟩
  · have hbody : serveReadFails (r.frame Kind.readFails).payload s = readFails max s := by
      rw [Req.frame, hpayload, serveReadFails]
    exact ⟨fun hbad => exec_of_refuse rfl rfl rfl hs (hbody.trans (readFails_range hbad)),
      fun removed left hlow hhigh hlog hcut => exec_of_accept rfl rfl rfl hs
        (hbody.trans (readFails_accept hlow hhigh hlog hcut))⟩
  · rw [Req.frame, hpayload, serveReadCounts, readCounts, Checker.countResults, Checker.settings]
    simp only [List.append_assoc]
    rfl
  · rewrite [FailRec.bytes, failDetail_code_eq, placeBytes_eq, failDetail_bytes_eq]
    rfl

end Sys2Proof.Machine
end

section
/-! SUPPORT. Captures, and the base slot index that records and notices carry (R133, R163, R165,
R166). -/

namespace Sys2Proof.Machine

open Safety

/-! ## The capture pair (R165) -/

/-- The latest capture becomes the previous one, unless there is none. -/
theorem keep_eq (t : Trigger) (c : CaptureRec) :
    t.keep c =
      { t with
        latest := some c
        previous := if t.latest = none then t.previous else t.latest } := by
  rw [Trigger.keep]
  cases t.latest <;> rfl

theorem sourceOf_eq (input : TrigInput) :
    sourceOf input = if input = .trgA then .trgA else .trgB := by
  cases input <;> rfl

theorem capture_accept {s : State} (h : s.engine.mode.isLive = true) :
    capture s = accept (captured .request s) (s.captureRec .request).bytes := by
  rw [capture, unlessLocked_of_ne (ne_lockout_of_isLive h), if_pos h]

theorem captureAction_live {s : State} (h : s.engine.mode.isLive = true) (input : TrigInput) :
    captureAction input s =
      (captured (sourceOf input) s).notice .capture (s.captureRec (sourceOf input)).bytes :=
  if_pos h

theorem captureAction_ignored {s : State} (h : s.engine.mode.isLive = false) (input : TrigInput) :
    captureAction input s = s :=
  if_neg (by simp [h])

/-! ## The base slot index (R133, R165) -/

/-- With saved frames the bottom frame is the oldest of them. -/
theorem baseSlot_of_saved {e : Engine} {under : List SavedFrame} {g : SavedFrame} {b : BasePlace}
    (hstack : e.stack = under ++ [g]) (hb : g.frame.base = some b) : e.baseSlot = b.slot := by
  rw [Engine.baseSlot, hstack, List.getLast?_concat]
  simp [hb]

/-- Without them it is the live frame. -/
theorem baseSlot_of_live {e : Engine} {f : RunFrame} {b : BasePlace} (hstack : e.stack = [])
    (hf : e.live = some f) (hb : f.base = some b) : e.baseSlot = b.slot := by
  rw [Engine.baseSlot, hstack, hf]
  simp [hb]

/-- Settles O53: the record is `State.captureRec` and the pair `Trigger.keep`; an edge finds the
engine as it was before the change of level. -/
theorem capturesAreKept : Obligations.CapturesAreKept := by
  unfold Obligations.CapturesAreKept
  intro record kept
  have hkeep : Trigger.keep = kept := by
    funext t c
    exact keep_eq t c
  refine ⟨fun r s hpayload hs hlive => ?_, fun input s hedge => ?_, fun e =>
    ⟨rfl, fun _ _ _ => baseSlot_of_saved, fun _ _ => baseSlot_of_live⟩⟩
  · rw [← hkeep]
    refine exec_of_accept rfl rfl rfl hs ?_
    rw [Req.frame, hpayload, serveCapture, capture_accept hlive]
    rfl
  · intro source
    have hrow : exec (.captureTrigger input) s =
        .next (captureAction input (s.levelChanged input)) :=
      congrArg Host.Outcome.next (triggerRow_of_edge hedge (captureAction input))
    have hsource : sourceOf input = source := sourceOf_eq input
    have hengine : (s.levelChanged input).engine = s.engine := rfl
    rw [hrow, ← hengine, ← hsource, ← hkeep]
    refine ⟨fun hlive => ?_, fun hidle => ?_⟩
    · rw [captureAction_live hlive]
      rfl
    · rw [captureAction_ignored hidle]

end Sys2Proof.Machine
end

section
/-! SUPPORT. The survey's maps: the net map entry that SURVEY_STROBE writes, the comparison of the two
maps pair by pair, and the requests that write the reference map whole (R151, R154, R157, R158). -/

namespace Sys2Proof.Machine

open Safety

/-! ## SURVEY_STROBE (R151) -/

/-- A judgement leaves the survey unit alone but for the position, whatever the fail log holds. -/
theorem judge_survey_maps (m f o : LaneSet) (s : State) :
    (judge m f o s).survey = { s.survey with position := (judge m f o s).survey.position } := by
  rw [judge_eq]
  split
  · rw [enterLockout_survey, runEnd_survey, beforeLockout_survey]
  · rw [beforeLockout_survey]

/-- The driven participant's entry is the one the state before the strobe gives: the pacer's count is
no part of it. -/
theorem writeEntry_reachStrobe_of_position {s : State} {d : Lane} (a : Assembly)
    (hd : s.survey.position = some d) :
    writeEntry a (reachStrobe s) =
      atStrobe s (s.survey.netMap.set d.val (some (s.netEntry a d))) := by
  have hd' : (reachStrobe s).survey.position = some d := hd
  rw [writeEntry, hd']
  rfl

/-! ## The comparison (R154) -/

/-- A lane without a reference entry makes no records. -/
theorem laneRecords_no_reference {v : Survey} {i : Lane} (h : v.reference[i] = none) :
    v.laneRecords i = [] := by
  simp only [Survey.laneRecords, h]

/-- A lane without a net map entry makes none either. -/
theorem laneRecords_no_entry {v : Survey} {i : Lane} (h : v.netMap[i] = none) :
    v.laneRecords i = [] := by
  cases hr : v.reference[i] with
  | none => exact laneRecords_no_reference hr
  | some expected => simp only [Survey.laneRecords, hr, h]

/-- A lane with both entries makes the records of its pairs with the other compared lanes, if it is a
participant. -/
theorem laneRecords_of_entries {v : Survey} {i : Lane} {expected : LaneSet} {e : NetEntry}
    (hr : v.reference[i] = some expected) (he : v.netMap[i] = some e) :
    v.laneRecords i = (List.finRange 24).filterMap fun j =>
      if v.reference[j].isSome ∧ hasLane v.participants i ∧ hasLane v.participants j ∧ i ≠ j then
        pairRecord i j expected e
      else none := by
  have hlane : v.compared i = hasLane v.participants i := by simp [Survey.compared, hr]
  simp only [Survey.laneRecords, hr, he, hlane]
  by_cases hi : hasLane v.participants i = true
  · rw [if_pos hi]
    refine List.filterMap_congr fun j _ => if_congr ?_ rfl rfl
    simp only [hi, Survey.compared, Bool.and_eq_true, bne_iff_ne, true_and]
    tauto
  · simp [hi]

/-! ## LOAD_REFERENCE (R157) -/

theorem refEntryOf?_none {p a b c : Byte} (h : 1 < p.toNat) : refEntryOf? [p, a, b, c] = none := by
  have h0 : p ≠ 0 := by rintro rfl; simp at h
  have h1 : p ≠ 1 := by rintro rfl; simp at h
  rw [refEntryOf?, if_neg h0, if_neg h1]

theorem refEntryOf?_some {p a b c : Byte} (h : p.toNat ≤ 1) :
    refEntryOf? [p, a, b, c] = some (if p = 1 then some (laneSet3 a b c) else none) := by
  obtain rfl | rfl : p = 0 ∨ p = 1 := by bv_omega
  · rfl
  · rfl

/-- One entry out of range and none is written. -/
theorem refEntriesOf?_none {bs : List (List Byte)} {b : List Byte} (hb : b ∈ bs)
    (h : refEntryOf? b = none) : refEntriesOf? bs = none := by
  induction bs with
  | nil => cases hb
  | cons c bs ih =>
    rw [refEntriesOf?]
    rcases List.mem_cons.1 hb with rfl | hb
    · rw [h]
    · rw [ih hb]
      cases refEntryOf? c <;> rfl

theorem refEntriesOf?_map {α : Type} {g : α → List Byte} {e : α → Option LaneSet}
    (h : ∀ x, refEntryOf? (g x) = some (e x)) (xs : List α) :
    refEntriesOf? (xs.map g) = some (xs.map e) := by
  induction xs with
  | nil => rfl
  | cons x xs ih => rw [List.map_cons, refEntriesOf?, h, ih, List.map_cons]

/-- 24 entries of four bytes are worked out as the entries of the lanes. -/
theorem serveLoadReference_entries (g : Lane → List Byte) (hg : ∀ n, (g n).length = 4) (s : State) :
    serveLoadReference ((List.finRange 24).flatMap g) s =
      loadReference ((List.finRange 24).map g) s := by
  have hlength : ((List.finRange 24).flatMap g).length = 96 := by
    simp [List.length_flatMap, hg]
  have hpieces := pieces_flatMap hg (List.finRange 24)
  rw [List.length_finRange] at hpieces
  rw [serveLoadReference, if_pos hlength, hpieces]

/-- The count that a reply carries, of the map itself. -/
theorem referenceCount_putReference (v : Survey) (m : Lanes (Option LaneSet)) :
    (v.putReference m).referenceCount =
      ((List.finRange 24).filter fun n => m[n].isSome).length :=
  congrArg List.length (List.filter_congr fun _ _ => hasLane_lanesWhere ..)

section
variable {s : State} (hlock : s.engine.mode ≠ .lockout) (hlive : s.engine.surveyLive = false)
include hlock hlive

/-- An entry out of range refuses the whole map. -/
theorem loadReference_range {bs : List (List Byte)} (h : refEntriesOf? bs = none) :
    loadReference bs s = refuse .range s := by
  rw [loadReference, unlessLocked_of_ne hlock, if_neg (by simp [hlive]), h]

theorem loadReference_accept (e : Lane → Option LaneSet) {bs : List (List Byte)}
    (h : refEntriesOf? bs = some ((List.finRange 24).map e)) :
    loadReference bs s =
      accept (s.withSurvey (s.survey.putReference (Vector.ofFn e)))
        (byte (s.survey.putReference (Vector.ofFn e)).referenceCount) := by
  have hmap : (Vector.ofFn fun n : Lane => ((List.finRange 24).map e).getD n.val none) =
      Vector.ofFn e := by
    congr 1
    funext n
    simp [List.getD_eq_getElem?_getD]
  rw [loadReference, unlessLocked_of_ne hlock, if_neg (by simp [hlive]), h, ← hmap]

/-! ## ADOPT_REFERENCE and CLEAR_REFERENCE (R158) -/

theorem adoptReference_empty (h : s.survey.mapComplete = false) :
    adoptReference s = refuse .empty s := by
  rw [adoptReference, unlessLocked_of_ne hlock, if_neg (by simp [hlive]), if_pos (by simp [h])]

theorem adoptReference_accept (h : s.survey.mapComplete = true) :
    adoptReference s =
      accept (s.withSurvey (s.survey.putReference s.survey.netAsReference))
        (byte (s.survey.putReference s.survey.netAsReference).referenceCount) := by
  rw [adoptReference, unlessLocked_of_ne hlock, if_neg (by simp [hlive]), if_neg (by simp [h])]

theorem clearReference_accept :
    clearReference s =
      accept
        (s.withSurvey
          { s.survey with reference := Vector.replicate 24 none, referencePresent := false }) [] := by
  rw [clearReference, unlessLocked_of_ne hlock, if_neg (by simp [hlive])]

end

/-- Settles O50: a strobe's judgement leaves the maps as the entry written before it left them, and
the comparison is the records of the lanes one after another. -/
theorem netMapIsWrittenAndCompared : Obligations.NetMapIsWrittenAndCompared := by
  unfold Obligations.NetMapIsWrittenAndCompared
  refine ⟨fun a s d hdue hd => ?_, fun v => ⟨fun h => ?_, fun h => ?_⟩⟩
  · refine ⟨_, s.netEntry a d, execSurveyStrobe_due hdue a, ?_⟩
    rw [writeEntry_reachStrobe_of_position a hd, checkStrobe, judge_survey_maps]
    exact ⟨rfl, fun n => by simp [State.netEntry, bne, beq_eq_decide], rfl,
      fun n => hasLane_lanesWhere _ n, rfl, rfl, rfl, rfl, rfl⟩
  · simp [Survey.comparison, h]
  · rw [Survey.comparison, if_pos h]
    refine List.flatMap_congr fun i _ => ?_
    cases hr : v.reference[i] with
    | none => simp [laneRecords_no_reference hr]
    | some expected =>
      cases he : v.netMap[i] with
      | none => simp [laneRecords_no_entry he]
      | some e =>
        rw [laneRecords_of_entries hr he]
        refine List.filterMap_congr fun j _ => ?_
        cases hj : v.reference[j] with
        | none => simp
        | some _ => simp [pairRecord]

/-- Settles O51: each request writes one map, whose entries are read off lane by lane. -/
theorem referenceMapIsWrittenWhole : Obligations.ReferenceMapIsWrittenWhole := by
  unfold Obligations.ReferenceMapIsWrittenWhole
  intro present
  have hcount (v : Survey) (m : Lanes (Option LaneSet)) :
      (v.putReference m).referenceCount = present m := referenceCount_putReference v m
  refine ⟨fun r s p a b c hp hs hlock hlive => ?_, fun r s hp hs hlock hlive => ?_,
    fun r s hp hs hlock hlive => ?_⟩
  · have hbody : serveLoadReference (r.frame Kind.loadReference).payload s =
        loadReference ((List.finRange 24).map fun n => [p n, a n, b n, c n]) s := by
      rw [Req.frame, hp, serveLoadReference_entries]
      exact fun _ => rfl
    refine ⟨fun ⟨n, hn⟩ => ?_, fun h => ?_⟩
    · exact exec_of_refuse rfl rfl rfl hs (hbody.trans (loadReference_range hlock hlive
        (refEntriesOf?_none (List.mem_map_of_mem (List.mem_finRange n)) (refEntryOf?_none hn))))
    · have hentries := refEntriesOf?_map
        (fun n => refEntryOf?_some (a := a n) (b := b n) (c := c n) (h n)) (List.finRange 24)
      have haccept := loadReference_accept hlock hlive _ hentries
      rw [hcount] at haccept
      exact ⟨_, fun n => Vector.getElem_ofFn n.isLt,
        exec_of_accept rfl rfl rfl hs (hbody.trans haccept)⟩
  · have hbody : serveAdoptReference (r.frame Kind.adoptReference).payload s = adoptReference s := by
      rw [Req.frame, hp, serveAdoptReference]
    refine ⟨fun h => ?_, fun h => ?_⟩
    · exact exec_of_refuse rfl rfl rfl hs (hbody.trans (adoptReference_empty hlock hlive h))
    · have haccept := adoptReference_accept hlock hlive h
      rw [hcount] at haccept
      exact ⟨_, fun n => Vector.getElem_ofFn n.isLt,
        exec_of_accept rfl rfl rfl hs (hbody.trans haccept)⟩
  · refine exec_of_accept rfl rfl rfl hs ?_
    rw [Req.frame, hp, serveClearReference]
    exact clearReference_accept hlock hlive

end Sys2Proof.Machine
end

section
/-! SUPPORT. The trigger inputs: a change of level taken, the rows that do not occur, and SET_TRIGGER
(R161, R162, R163; log 13). -/

namespace Sys2Proof.Machine

open Safety

/-! ## Changes of level (R161) -/

theorem levelChanged_eq (input : TrigInput) (s : State) :
    s.levelChanged input =
      { s with trigger :=
        if input = .trgA then
          { s.trigger with
            trgA := { s.trigger.trgA with lastLevel := !s.trigger.trgA.lastLevel } }
        else
          { s.trigger with
            trgB := { s.trigger.trgB with lastLevel := !s.trigger.trgB.lastLevel } } } := by
  cases input <;> rfl

/-- A change against the configured edge delivers nothing, and so does action NONE. -/
theorem delivers_none {c : TrigCfg}
    (h : c.edge = .rising ∧ c.lastLevel = true ∨ c.edge = .falling ∧ c.lastLevel = false ∨
      c.action = .none) : c.delivers = .none := by
  rw [TrigCfg.delivers]
  rcases h with ⟨hedge, hlevel⟩ | ⟨hedge, hlevel⟩ | haction
  · exact if_neg (by rw [hedge, hlevel]; decide)
  · exact if_neg (by rw [hedge, hlevel]; decide)
  · rw [haction, ite_self]

/-- Only an edge delivers an action other than NONE. -/
theorem edge_of_delivery {s : State} {input : TrigInput} {action : TrigAction}
    (hne : action ≠ .none) (h : s.delivery input = some action) : Edge s input action := by
  have ho : s.operating = true := operating_of_delivery h
  rw [State.delivery, if_pos ho, TrigCfg.delivers] at h
  split at h
  next hadmits => exact ⟨ho, Option.some.inj h, hadmits⟩
  next => exact absurd (Option.some.inj h).symm hne

theorem delivery_of_edge {s : State} {input : TrigInput} {action : TrigAction}
    (h : Edge s input action) : s.delivery input = some action := by
  rw [State.delivery, if_pos h.operating, TrigCfg.delivers, if_pos h.admitted, h.action]

theorem not_edge_of_startUp {s : State} (h : s.operating = false) (input : TrigInput)
    (action : TrigAction) : ¬ Edge s input action :=
  fun hedge => Bool.false_ne_true (h.symm.trans hedge.operating)

/-! ## Rows that occur, and rows that do not (log 13) -/

/-- A row whose action is not what the change delivers does not occur. -/
theorem triggerRow_of_ne {s : State} {input : TrigInput} {action : TrigAction}
    (h : s.delivery input ≠ some action) (act : State → State) :
    triggerRow input action act s = s := if_neg h

/-- An action's row without its edge does not occur. -/
theorem triggerRow_of_not_edge {s : State} {input : TrigInput} {action : TrigAction}
    (hne : action ≠ .none) (h : ¬ Edge s input action) (act : State → State) :
    triggerRow input action act s = s :=
  triggerRow_of_ne (fun hd => h (edge_of_delivery hne hd)) act

theorem execSpliceTrigger_of_not_edge {s : State} {input : TrigInput}
    (h : ∀ x, ¬ Edge s input (.splice x)) : execSpliceTrigger input s = .next s := by
  rw [execSpliceTrigger]
  split
  next x hd => exact (h x (edge_of_delivery nofun hd)).elim
  next => rfl

/-- TRIGGER_LEVEL_CHANGE takes a change that delivers nothing. -/
theorem execTriggerLevelChange_taken {s : State} {input : TrigInput} (ho : s.operating = true)
    (h : (s.trigger.cfg input).delivers = .none) :
    execTriggerLevelChange input s = .next (s.levelChanged input) := by
  have hd : s.delivery input = some .none := by rw [State.delivery, if_pos ho, h]
  exact congrArg Host.Outcome.next (if_pos hd)

/-- TRIGGER_LEVEL_CHANGE does not occur where the change delivers an action, or none is taken. -/
theorem execTriggerLevelChange_of_ne {s : State} {input : TrigInput}
    (h : s.delivery input ≠ some .none) : execTriggerLevelChange input s = .next s :=
  congrArg Host.Outcome.next (triggerRow_of_ne h id)

/-- The six rows of actions where the input's next change is not their edge. -/
theorem actionRows_of_not_edge (input : TrigInput) (s : State) :
    (¬ Edge s input .start → exec (.startTrigger input) s = .next s) ∧
    (¬ Edge s input .stop → exec (.stopTrigger input) s = .next s) ∧
    (¬ Edge s input .release → exec (.releaseTrigger input) s = .next s) ∧
    (¬ Edge s input .advance → exec (.advanceTrigger input) s = .next s) ∧
    (¬ Edge s input .capture → exec (.captureTrigger input) s = .next s) ∧
    ((∀ x, ¬ Edge s input (.splice x)) → exec (.spliceTrigger input) s = .next s) := by
  have hrow {action : TrigAction} (hne : action ≠ .none) (act : State → State)
      (h : ¬ Edge s input action) :
      (Host.Outcome.next (triggerRow input action act s) : Host.Outcome State Fault Refusal) =
        .next s := congrArg Host.Outcome.next (triggerRow_of_not_edge hne h act)
  exact ⟨hrow (action := .start) nofun startAction, hrow (action := .stop) nofun stopAction,
    hrow (action := .release) nofun releaseAction, hrow (action := .advance) nofun advanceAction,
    hrow (action := .capture) nofun (captureAction input), execSpliceTrigger_of_not_edge⟩

/-! ## SET_TRIGGER's operands (R161, R177) -/

theorem trigInput_none {b : Byte} (h : 1 < b.toNat) : TrigInput.ofByte? b = none :=
  List.getElem?_eq_none h

/-- The byte that names an edge is its code (R177). -/
theorem trigEdge_code {b : Byte} {e : TrigEdge} (h : TrigEdge.ofByte? b = some e) : e.code = b := by
  obtain ⟨hlt, he⟩ := List.getElem?_eq_some_iff.1 h
  have hb : b = 0 ∨ b = 1 ∨ b = 2 := by
    simp only [List.length_cons, List.length_nil] at hlt
    bv_omega
  rcases hb with rfl | rfl | rfl <;> exact he ▸ rfl

theorem plainAction_none {b : Byte} (h : 6 ≤ b.toNat) : TrigAction.plain? b = none :=
  List.getElem?_eq_none h

/-- An action without a preset is written as its own byte and an absent preset (R161, R177). -/
theorem trigCfg_bytes_plain {b : Byte} {act : TrigAction} (h : TrigAction.plain? b = some act)
    (e : TrigEdge) (l : Bool) : (⟨e, act, l⟩ : TrigCfg).bytes = [e.code, b, 0xFF, 0xFF, 0xFF] := by
  obtain ⟨hlt, hact⟩ := List.getElem?_eq_some_iff.1 h
  have hb : b = 0 ∨ b = 1 ∨ b = 2 ∨ b = 3 ∨ b = 4 ∨ b = 5 := by
    simp only [List.length_cons, List.length_nil] at hlt
    bv_omega
  rcases hb with rfl | rfl | rfl | rfl | rfl | rfl <;> exact hact ▸ rfl

theorem trigCfg_bytes_splice {x : Splice} {p t k : Byte} (hx : SpliceBytes x p t k) (e : TrigEdge)
    (l : Bool) : (⟨e, .splice x, l⟩ : TrigCfg).bytes = [e.code, 6, p, t, k] := by
  have hpreset : x.bytes = [p, t, k] := by
    rw [Splice.bytes, byte_of_toNat hx.pattern, byte_of_toNat hx.timing, byte_of_toNat hx.skip]
    rfl
  exact congrArg ([e.code, 6] ++ ·) hpreset

/-! ## SET_TRIGGER (R162) -/

/-- An input's edge and action are written, its last level kept; the reply is what was written. -/
theorem writeTrigger_eq (i : TrigInput) (e : TrigEdge) (act : TrigAction) (s : State) :
    writeTrigger i e act s =
      accept
        { s with trigger :=
          if i = .trgA then { s.trigger with trgA := ⟨e, act, s.trigger.trgA.lastLevel⟩ }
          else { s.trigger with trgB := ⟨e, act, s.trigger.trgB.lastLevel⟩ } }
        ((⟨e, act, (s.trigger.cfg i).lastLevel⟩ : TrigCfg).bytes
          ++ [if (s.trigger.cfg i).lastLevel then 1 else 0]) := by
  cases i <;> rfl

theorem setSpliceTrigger_range {p t : Byte} (h : 31 < p.toNat ∨ 3 < t.toNat) (i : TrigInput)
    (e : TrigEdge) (k : Byte) (s : State) : setSpliceTrigger i e p t k s = refuse .range s := by
  rw [setSpliceTrigger]
  rcases h with h | h
  · rw [patternId_none h]
  · rw [timingId_none h]
    cases PatternId.ofByte? p <;> rfl

theorem setSpliceTrigger_notDefined {p t : Byte} {q : PatternId} {u : TimingId} {s : State}
    (hp : p.toNat = q.val) (ht : t.toNat = u.val) (hundef : s.store.content q = .undefined)
    (i : TrigInput) (e : TrigEdge) (k : Byte) :
    setSpliceTrigger i e p t k s = refuse .notDefined s := by
  rw [setSpliceTrigger, patternId_some hp, timingId_some ht]
  exact if_pos (by rw [hundef]; rfl)

theorem setSpliceTrigger_written {p t : Byte} {q : PatternId} {u : TimingId} {s : State}
    (hp : p.toNat = q.val) (ht : t.toNat = u.val) (hdef : s.store.content q ≠ .undefined)
    (i : TrigInput) (e : TrigEdge) (k : Byte) :
    setSpliceTrigger i e p t k s = writeTrigger i e (.splice ⟨q, u, k.toNat⟩) s := by
  rw [setSpliceTrigger, patternId_some hp, timingId_some ht]
  exact if_neg (by simp [(isDefined_iff _).2 hdef])

section
variable {s : State} (hm : s.engine.mode = .idle ∨ s.engine.mode = .armed)
include hm

/-- Past its first checks SET_TRIGGER goes by the action's byte. -/
theorem setTrigger_named {input edge : Byte} {i : TrigInput} {e : TrigEdge}
    (hi : TrigInput.ofByte? input = some i) (he : TrigEdge.ofByte? edge = some e)
    (action p t k : Byte) :
    setTrigger input edge action p t k s =
      if action = TrigAction.spliceByte then setSpliceTrigger i e p t k s
      else (TrigAction.plain? action).elim (refuse .range s) fun act => writeTrigger i e act s := by
  obtain ⟨hlive, hlock⟩ := not_live_of_idle_or_armed hm
  rw [setTrigger, unlessLocked_of_ne hlock, if_neg (by simp [hlive]), hi, he]
  cases TrigAction.plain? action <;> rfl

/-- RANGE for a byte that names no input, no edge or no action. -/
theorem setTrigger_range {input edge action : Byte}
    (h : 1 < input.toNat ∨ TrigEdge.ofByte? edge = none ∨ 6 < action.toNat) (p t k : Byte) :
    setTrigger input edge action p t k s = refuse .range s := by
  obtain ⟨hlive, hlock⟩ := not_live_of_idle_or_armed hm
  cases hi : TrigInput.ofByte? input with
  | none => rw [setTrigger, unlessLocked_of_ne hlock, if_neg (by simp [hlive]), hi]
  | some i =>
    cases he : TrigEdge.ofByte? edge with
    | none => rw [setTrigger, unlessLocked_of_ne hlock, if_neg (by simp [hlive]), hi, he]
    | some e =>
      have haction : 6 < action.toNat := by
        rcases h with h | h | h
        · simp [trigInput_none h] at hi
        · simp [h] at he
        · exact h
      have hsplice : action ≠ TrigAction.spliceByte := by
        rintro rfl
        exact absurd haction (by decide)
      rw [setTrigger_named hm hi he, if_neg hsplice, plainAction_none haction.le, Option.elim_none]

variable {input edge : Byte} {i : TrigInput} {e : TrigEdge}
  (hi : TrigInput.ofByte? input = some i) (he : TrigEdge.ofByte? edge = some e)
include hi he

theorem setTrigger_splice {action : Byte} (h : action.toNat = 6) (p t k : Byte) :
    setTrigger input edge action p t k s = setSpliceTrigger i e p t k s := by
  rw [setTrigger_named hm hi he]
  exact if_pos (BitVec.eq_of_toNat_eq h)

theorem setTrigger_plain {action : Byte} {act : TrigAction} (hlt : action.toNat < 6)
    (h : TrigAction.plain? action = some act) (p t k : Byte) :
    setTrigger input edge action p t k s = writeTrigger i e act s := by
  have hsplice : action ≠ TrigAction.spliceByte := by
    rintro rfl
    exact absurd hlt (by decide)
  rw [setTrigger_named hm hi he, if_neg hsplice, h, Option.elim_some]

end

/-- Settles O52: a row occurs where the change delivers its action, so the rows are told by what is
delivered; SET_TRIGGER by its operands in their order. -/
theorem triggerInputsAreSetAndSensed : Obligations.TriggerInputsAreSetAndSensed := by
  unfold Obligations.TriggerInputsAreSetAndSensed
  refine ⟨⟨levelChanged_eq, fun input s c ho hc => ⟨fun h => ?_, fun action hedge hne => ?_⟩,
    actionRows_of_not_edge, fun input s hdown => ?_⟩,
    fun r s input edge action p t k hpayload hs hm => ?_⟩
  · exact execTriggerLevelChange_taken ho (hc ▸ delivers_none h)
  · refine execTriggerLevelChange_of_ne ?_
    rw [delivery_of_edge hedge]
    exact fun h => hne (Option.some.inj h)
  · have hnone (action : TrigAction) : ¬ Edge s input action := not_edge_of_startUp hdown input action
    obtain ⟨hstart, hstop, hrelease, hadvance, hcapture, hsplice⟩ := actionRows_of_not_edge input s
    refine ⟨execTriggerLevelChange_of_ne fun hd => ?_, hstart (hnone _), hstop (hnone _),
      hrelease (hnone _), hadvance (hnone _), hcapture (hnone _), hsplice fun _ => hnone _⟩
    exact Bool.false_ne_true (hdown.symm.trans (operating_of_delivery hd))
  · have hbody : serveSetTrigger (r.frame Kind.setTrigger).payload s =
        setTrigger input edge action p t k s := by rw [Req.frame, hpayload, serveSetTrigger]
    refine ⟨fun h => exec_of_refuse rfl rfl rfl hs (hbody.trans (setTrigger_range hm h p t k)),
      fun i e hi he => ⟨fun haction h => exec_of_refuse rfl rfl rfl hs ?_,
        fun q haction hp ht hundef => exec_of_refuse rfl rfl rfl hs ?_,
        fun act preset h => exec_of_accept rfl rfl rfl hs ?_⟩⟩
    · rw [hbody, setTrigger_splice hm hi he haction, setSpliceTrigger_range h]
    · have hu : t.toNat = (⟨t.toNat, Nat.lt_succ_of_le ht⟩ : TimingId).val := rfl
      rw [hbody, setTrigger_splice hm hi he haction, setSpliceTrigger_notDefined hp hu hundef]
    · rw [hbody]
      have hedge : edge = e.code := (trigEdge_code he).symm
      rcases h with ⟨q, u, haction, hp, ht, hdef, rfl, rfl⟩ | ⟨hlt, hplain, rfl⟩
      · obtain rfl : action = 6 := BitVec.eq_of_toNat_eq haction
        rw [setTrigger_splice hm hi he haction, setSpliceTrigger_written hp ht hdef, writeTrigger_eq,
          trigCfg_bytes_splice ⟨hp, ht, rfl⟩, hedge]
        rfl
      · rw [setTrigger_plain hm hi he hlt hplain, writeTrigger_eq, trigCfg_bytes_plain hplain, hedge]
        rfl

end Sys2Proof.Machine
end

section
/-! SUPPORT. The link's events: which command a step takes, complete frames and their admission,
notices and the frames sent, and the receive framer, byte by byte (R168 to R173, R176). -/

namespace Sys2Proof.Machine

open Safety

/-- Settles O1: a step looks at the front of the queue alone. -/
theorem stepTakesTheOldestCommand : Obligations.StepTakesTheOldestCommand := by
  unfold Obligations.StepTakesTheOldestCommand
  intro c rest s h
  simp only [step, h]

/-! ## Frames that are complete (R170) -/

theorem freeEntries_pos (l : Link) :
    1 ≤ l.freeEntries ↔ l.outbound.length + l.requests.length < 16 := by
  simp only [Link.freeEntries, Link.reserved, Config.outboundEntries]
  omega

theorem isRequestKind_iff (k : Byte) : isRequestKind k = true ↔ k.toNat < 0x60 := by
  simp [isRequestKind]

/-- A payload that R168 allows is handed to admission, the framer hunting. -/
theorem completeFrame_of_le {l : Link} {f : LinkFrame} (h : f.payload.length ≤ 240) :
    l.completeFrame f = ({ l with framer := .hunting } : Link).admission f := if_pos h

/-- A longer one discards the frame, as its length byte does (R169). -/
theorem completeFrame_of_gt {l : Link} {f : LinkFrame} (h : 240 < f.payload.length) :
    l.completeFrame f = l.discard := if_neg (Nat.not_le.2 h)

theorem admission_of_not_request {l : Link} {f : LinkFrame} (h : 0x60 ≤ f.kind.toNat) :
    l.admission f = { l with linkError := true } := by
  have hk : isRequestKind f.kind = false := by simpa [isRequestKind] using h
  simp [Link.admission, hk]

section

variable {l : Link} {f : LinkFrame} (hk : f.kind.toNat < 0x60)
include hk

/-- A request that finds room in both queues is admitted (R170). -/
theorem admission_of_room (hreq : l.requests.length < 4)
    (hfree : l.outbound.length + l.requests.length < 16) :
    l.admission f = { l with requests := l.requests ++ [f] } := by
  simp [Link.admission, (isRequestKind_iff _).2 hk, Config.requestEntries, hreq,
    (freeEntries_pos l).2 hfree]

/-- With the request queue full it is answered QUEUE_FULL (R170). -/
theorem admission_of_full (hreq : 4 ≤ l.requests.length)
    (hfree : l.outbound.length + l.requests.length < 16) :
    l.admission f = l.place (f.reply .queueFull []) := by
  simp [Link.admission, (isRequestKind_iff _).2 hk, Config.requestEntries, Nat.not_lt.2 hreq,
    (freeEntries_pos l).2 hfree]

/-- With no free outbound entry it is dropped (R170). -/
theorem admission_of_no_entry (hfree : 16 ≤ l.outbound.length + l.requests.length) :
    l.admission f = { l with linkError := true } := by
  have hnone : ¬ 1 ≤ l.freeEntries := mt (freeEntries_pos l).1 (Nat.not_lt.2 hfree)
  simp [Link.admission, (isRequestKind_iff _).2 hk, hnone]

end

/-- While the part operates, FRAME_COMPLETE hands its frame to the link. -/
theorem exec_frameComplete {s : State} (ho : s.operating = true) (f : LinkFrame) :
    exec (.frameComplete f) s = .next (s.withLink (s.link.completeFrame f)) :=
  congrArg Host.Outcome.next (if_pos ho)

/-- What the framer held before plays no part in it (log 8). -/
theorem exec_frameComplete_framer {s : State} (ho : s.operating = true) (x : Framer)
    (f : LinkFrame) :
    exec (.frameComplete f) (s.withLink { s.link with framer := x }) =
      exec (.frameComplete f) s := by
  rw [exec_frameComplete ho]
  exact exec_frameComplete (s := s.withLink { s.link with framer := x }) ho f

/-- A row that leaves the link `l` is known by that link. -/
theorem next_withLink {s : State} {l m : Link} (h : l = m) :
    (Host.Outcome.next (s.withLink l) : Host.Outcome State Fault Refusal) =
      .next { s with link := m } := by
  rw [h]
  rfl

/-- Settles O5: by the payload's length, the kind, and the room that admission finds. -/
theorem frameCompleteIsAdmittedOrAnswered : Obligations.FrameCompleteIsAdmittedOrAnswered := by
  unfold Obligations.FrameCompleteIsAdmittedOrAnswered
  intro f s ho
  rw [exec_frameComplete ho]
  refine ⟨fun hlong => ?_, fun hlen hk => ?_, fun hlen hk hreq hfree => ?_,
    fun hlen hk hreq hfree => ?_, fun hlen hk hfree => ?_⟩
  · exact next_withLink (completeFrame_of_gt hlong)
  · exact next_withLink ((completeFrame_of_le hlen).trans (admission_of_not_request hk))
  · exact next_withLink ((completeFrame_of_le hlen).trans (admission_of_room hk hreq hfree))
  · exact next_withLink ((completeFrame_of_le hlen).trans (admission_of_full hk hreq hfree))
  · exact next_withLink ((completeFrame_of_le hlen).trans (admission_of_no_entry hk hfree))

/-! ## Notices and frames sent (R172, R173) -/

theorem notice_masked {l : Link} {k : NoticeKind} (hk : k ≠ .ready)
    (hm : l.noticeMask.getLsbD k.bit = false) (p : List Byte) : l.notice k p = l := by
  simp [Link.notice, Link.maskAdmits, hk, hm]

section

variable {l : Link} {k : NoticeKind} (hk : k = .ready ∨ l.noticeMask.getLsbD k.bit = true)
include hk

theorem maskAdmits_of_or : l.maskAdmits k = true := by
  simpa [Link.maskAdmits] using hk

/-- An unmasked notice within the cap and with a free entry is placed (R172). -/
theorem notice_placed (hcap : l.notices < 12)
    (hfree : l.outbound.length + l.requests.length < 16) (p : List Byte) :
    l.notice k p = l.place (k.frame p) := by
  simp [Link.notice, maskAdmits_of_or hk, Config.noticeCap, hcap, (freeEntries_pos l).2 hfree]

/-- Any other unmasked notice is dropped (R172). -/
theorem notice_dropped (h : 12 ≤ l.notices ∨ 16 ≤ l.outbound.length + l.requests.length)
    (p : List Byte) : l.notice k p = { l with noticeLost := true } := by
  have hroom : ¬ (l.notices < Config.noticeCap ∧ 1 ≤ l.freeEntries) := by
    rw [freeEntries_pos, Config.noticeCap]
    omega
  simp only [Link.notice, maskAdmits_of_or hk, Bool.not_true, Bool.false_eq_true, if_false,
    ← Bool.decide_and, decide_eq_true_eq, if_neg hroom]

end

/-- Settles O8: a notice by the mask and the room it finds, FRAME_SENT by the queue's front. -/
theorem noticesArePlacedAndFramesSent : Obligations.NoticesArePlacedAndFramesSent := by
  unfold Obligations.NoticesArePlacedAndFramesSent
  refine ⟨fun k p s => ⟨fun hk hm => ?_, fun hk => ⟨fun hcap hfree => ?_, fun hfull => ?_⟩⟩,
    fun f rest s h => ?_⟩
  · exact congrArg s.withLink (notice_masked hk hm p)
  · exact congrArg s.withLink (notice_placed hk hcap hfree p)
  · exact congrArg s.withLink (notice_dropped hk hfull p)
  · exact next_withLink (by rw [h, List.tail_cons])

/-! ## The bytes of a frame (R168) -/

/-- The two bytes of a CRC, joined again. -/
theorem crcBytes_eq_iff (c : BitVec 16) (hi lo : Byte) : [hi, lo] = crcBytes c ↔ c = hi ++ lo := by
  have hjoined : c.extractLsb' 8 8 ++ c.extractLsb' 0 8 = c :=
    BitVec.extractLsb'_append_extractLsb' (w := 8) (len := 8)
  have hhigh : (hi ++ lo).extractLsb' 8 8 = hi :=
    BitVec.extractLsb'_append_eq_left (w := 8) (w' := 8)
  have hlow : (hi ++ lo).extractLsb' 0 8 = lo :=
    BitVec.extractLsb'_append_eq_right (w := 8) (w' := 8)
  constructor
  · intro h
    simp only [crcBytes, List.cons.injEq, and_true] at h
    rw [h.1, h.2, hjoined]
  · rintro rfl
    rw [crcBytes, hhigh, hlow]

/-- A frame's bytes after the start byte, the payload having the length that the first of them
names: they are as many as the framer waits for, and are read as that frame. -/
theorem frame_of_bytes {l tag kind hi lo : Byte} {payload bytes : List Byte}
    (hlen : payload.length = l.toNat)
    (hbytes : bytes = l :: tag :: kind :: (payload ++ [hi, lo])) :
    bytes.length = frameLength bytes + 5 ∧ frameOf bytes = ⟨tag, kind, payload⟩ ∧
      (crcAgrees bytes = true ↔ crc (l :: tag :: kind :: payload) = hi ++ lo) := by
  subst hbytes
  have htake : (l :: tag :: kind :: (payload ++ [hi, lo])).take (3 + l.toNat) =
      l :: tag :: kind :: payload := by
    simp [Nat.add_comm 3, ← hlen]
  have hdrop : (l :: tag :: kind :: (payload ++ [hi, lo])).drop (3 + l.toNat) = [hi, lo] := by
    simp [Nat.add_comm 3, ← hlen]
  have hframe : frameLength (l :: tag :: kind :: (payload ++ [hi, lo])) = l.toNat := rfl
  refine ⟨?_, ?_, ?_⟩
  · rw [hframe]
    simp [hlen]
  · simp [frameOf, hframe, ← hlen]
  · rw [crcAgrees, hframe, htake, hdrop, decide_eq_true_eq]
    exact crcBytes_eq_iff _ _ _

/-! ## The framer (R169) -/

theorem exec_characterReceived {s : State} (ho : s.operating = true) (b : Byte) (stopBit : Bool) :
    exec (.characterReceived b stopBit) s = .next (s.withLink (s.link.character b stopBit)) :=
  congrArg Host.Outcome.next (if_pos ho)

theorem exec_byteGapTimeout {s : State} (ho : s.operating = true)
    (hb : s.link.framer.busy = true) : exec .byteGapTimeout s = .next (s.withLink s.link.discard) :=
  congrArg Host.Outcome.next (if_pos (by rw [ho, hb]; rfl))

/-- The start byte begins a frame. -/
theorem character_start {l : Link} (h : l.framer = .hunting) :
    l.character 0xC3 true = { l with framer := .inFrame [] 0 } := by
  simp [Link.character, h]

/-- Any other character is ignored while the framer hunts. -/
theorem character_ignored {l : Link} (h : l.framer = .hunting) {b : Byte} {stopBit : Bool}
    (hb : b ≠ 0xC3 ∨ stopBit = false) : l.character b stopBit = l := by
  simp only [Link.character, h]
  refine if_neg fun hstart => ?_
  simp only [Bool.and_eq_true, decide_eq_true_eq] at hstart
  rcases hb with hb | hb
  · exact hb hstart.2
  · exact Bool.false_ne_true (hb.symm.trans hstart.1)

section

variable {l : Link} {bytes : List Byte} {gap : Nat} (h : l.framer = .inFrame bytes gap)
include h

theorem character_inFrame (b : Byte) : l.character b true = l.takeBytes (bytes ++ [b]) := by
  simp [Link.character, h]

/-- A character without its stop bit discards the frame. -/
theorem character_no_stopBit (b : Byte) : l.character b false = l.discard := by
  simp [Link.character, h]

end

theorem takeBytes_too_long {l : Link} {bytes : List Byte} (h : 240 < frameLength bytes) :
    l.takeBytes bytes = l.discard := if_pos h

/-- A frame with bytes still to come stays in progress. -/
theorem takeBytes_unfinished {l : Link} {bytes : List Byte} (hL : frameLength bytes ≤ 240)
    (hlen : bytes.length < frameLength bytes + 5) :
    l.takeBytes bytes = { l with framer := .inFrame bytes 0 } :=
  (if_neg (Nat.not_lt.2 hL)).trans (if_pos hlen)

/-- A frame's last byte: the frame is complete, or is discarded for its CRC. -/
theorem takeBytes_finished {l : Link} {bytes : List Byte} (hL : frameLength bytes ≤ 240)
    (hlen : bytes.length = frameLength bytes + 5) :
    l.takeBytes bytes = if crcAgrees bytes then l.completeFrame (frameOf bytes) else l.discard :=
  (if_neg (Nat.not_lt.2 hL)).trans (if_neg hlen.not_lt)

/-- The part does not operate: every character, frame and gap is ignored (R176). -/
theorem link_rows_of_startUp {s : State} (h : s.operating = false) (b : Byte) (stopBit : Bool)
    (f : LinkFrame) :
    exec (.characterReceived b stopBit) s = .next s ∧ exec (.frameComplete f) s = .next s ∧
      exec .byteGapTimeout s = .next s := by
  have hno : ¬ s.operating = true := by simp [h]
  exact ⟨congrArg Host.Outcome.next (if_neg hno), congrArg Host.Outcome.next (if_neg hno),
    congrArg Host.Outcome.next (if_neg (by simp [h]))⟩

/-- Settles O6: the framer hunting, then in a frame by the length byte, the number of bytes and the
CRC. -/
theorem framerTakesCharacters : Obligations.FramerTakesCharacters := by
  unfold Obligations.FramerTakesCharacters
  refine ⟨fun b stopBit s ho => ?_, fun b stopBit f s ho => link_rows_of_startUp ho b stopBit f⟩
  rw [exec_characterReceived ho]
  refine ⟨fun h hb hstop => ?_, fun h hb => ?_, fun h => ?_, fun bytes gap h => ⟨?_, ?_, ?_⟩⟩
  · subst hb hstop
    exact next_withLink (character_start h)
  · exact next_withLink (character_ignored h hb)
  · exact congrArg Host.Outcome.next (if_neg (by simp [h, Framer.busy]))
  · exact exec_byteGapTimeout ho (by rw [h]; rfl)
  · rintro rfl
    exact next_withLink (character_no_stopBit h b)
  · rintro rfl l rest hbytes
    have hL : frameLength (bytes ++ [b]) = l.toNat := by rw [hbytes]; rfl
    have hlen : (bytes ++ [b]).length = rest.length + 1 := by rw [hbytes]; rfl
    rw [character_inFrame h]
    refine ⟨fun hlong => ?_, fun hle hmore => ?_, fun tag kind payload hi lo hle hpay hrest => ?_⟩
    · exact next_withLink (takeBytes_too_long (hL ▸ hlong))
    · exact next_withLink (takeBytes_unfinished (hL ▸ hle) (by omega))
    · obtain ⟨hcount, hframe, hcrc⟩ := frame_of_bytes hpay (hrest ▸ hbytes)
      rw [takeBytes_finished (hL ▸ hle) hcount, hframe]
      refine ⟨fun hagree => ?_, fun hdiffer => ?_⟩
      · rw [if_pos (hcrc.2 hagree), exec_frameComplete ho]
      · exact next_withLink (if_neg (mt hcrc.1 hdiffer))

/-! ## A frame received byte by byte (R168, R169) -/

/-- The length byte comes first, so further bytes leave it as it is. -/
theorem frameLength_append {bytes : List Byte} (h : bytes ≠ []) (more : List Byte) :
    frameLength (bytes ++ more) = frameLength bytes := by
  obtain ⟨l, rest, rfl⟩ := List.exists_cons_of_ne_nil h
  rfl

/-- The bytes of a frame on the line after its start byte (R168). -/
def bytesAfterStart (f : LinkFrame) : List Byte := f.covered ++ crcBytes (crc f.covered)

theorem wire_eq (f : LinkFrame) : f.wire = 0xC3 :: bytesAfterStart f := rfl

/-- They are as many as the framer waits for, are read as the frame, and their CRC agrees. -/
theorem bytesAfterStart_complete {f : LinkFrame} (h : f.payload.length ≤ 240) :
    frameLength (bytesAfterStart f) ≤ 240 ∧
      (bytesAfterStart f).length = frameLength (bytesAfterStart f) + 5 ∧
      frameOf (bytesAfterStart f) = f ∧ crcAgrees (bytesAfterStart f) = true := by
  have hlen : (BitVec.ofNat 8 f.payload.length).toNat = f.payload.length := by
    rw [BitVec.toNat_ofNat]
    exact Nat.mod_eq_of_lt (by omega)
  have hL : frameLength (bytesAfterStart f) = f.payload.length := hlen
  obtain ⟨hcount, hframe, hcrc⟩ := frame_of_bytes hlen.symm (bytes := bytesAfterStart f) rfl
  exact ⟨hL ▸ h, hcount, hframe, hcrc.2 ((crcBytes_eq_iff _ _ _).1 rfl)⟩

theorem carriedOut_cons {c : Instr} {s t : State} (h : exec c s = .next t) (cs : List Instr) :
    carriedOut (c :: cs) s = carriedOut cs t := by
  simp only [carriedOut, h]

/-- The last bytes of a frame, received one after another, complete it. -/
theorem carriedOut_rest_of_frame {f : LinkFrame} (hpay : f.payload.length ≤ 240) {x : Byte}
    {rest bytes : List Byte} (hwire : bytes ++ x :: rest = bytesAfterStart f) {s : State}
    (ho : s.operating = true) {gap : Nat} (hframer : s.link.framer = .inFrame bytes gap) :
    carriedOut ((x :: rest).map fun b => .characterReceived b true) s =
      exec (.frameComplete f) s := by
  obtain ⟨hL, hcount, hframe, hcrc⟩ := bytesAfterStart_complete hpay
  induction rest generalizing bytes x s gap with
  | nil =>
    have hrow := exec_characterReceived ho x true
    rw [character_inFrame hframer, hwire, takeBytes_finished hL hcount, if_pos hcrc, hframe] at hrow
    rw [List.map_singleton, carriedOut_cons hrow, exec_frameComplete ho]
    rfl
  | cons y rest ih =>
    have hwire' : (bytes ++ [x]) ++ y :: rest = bytesAfterStart f := by
      rw [List.append_assoc, List.singleton_append, hwire]
    have hlength : frameLength (bytes ++ [x]) = frameLength (bytesAfterStart f) := by
      have hne : bytes ++ [x] ≠ [] := List.append_ne_nil_of_right_ne_nil _ (List.cons_ne_nil _ _)
      rw [← hwire', frameLength_append hne]
    have hmore : (bytes ++ [x]).length < frameLength (bytes ++ [x]) + 5 := by
      rw [hlength, ← hcount, ← hwire', List.length_append (bs := y :: rest), List.length_cons]
      omega
    have hrow := exec_characterReceived ho x true
    rw [character_inFrame hframer, takeBytes_unfinished (hlength ▸ hL) hmore] at hrow
    rw [List.map_cons, carriedOut_cons hrow,
      ← exec_frameComplete_framer ho (.inFrame (bytes ++ [x]) 0)]
    exact ih hwire' ho rfl

/-- Settles O7: the start byte begins the frame, and the bytes after it complete it. -/
theorem writtenFrameIsReceivedWhole : Obligations.WrittenFrameIsReceivedWhole := by
  unfold Obligations.WrittenFrameIsReceivedWhole
  intro f s ho hframer hpay
  have hrow := exec_characterReceived ho 0xC3 true
  rw [character_start hframer] at hrow
  rw [wire_eq, List.map_cons, carriedOut_cons hrow, ← exec_frameComplete_framer ho (.inFrame [] 0)]
  exact carriedOut_rest_of_frame (bytes := []) hpay rfl ho rfl

end Sys2Proof.Machine
end

section
/-! SUPPORT. Requests before their rules: a kind that the table does not list, a payload of a wrong
length, and the turn of a request row (R170, R171, R176, R178). -/

namespace Sys2Proof.Machine

open Safety

/-! ## Wrong lengths (R171) -/

/-- A frame that the length check stops has another length than the table gives its kind. -/
theorem length_ne_of_not_lengthFits {f : LinkFrame} {n : Nat} (h : lengthFits f = false)
    (hk : fixedLengths.lookup f.kind = some n) : f.payload.length ≠ n := by
  rintro rfl
  unfold lengthFits at h
  split at h
  · next hw => rw [hw] at hk; cases hk
  split at h
  · next hl => rw [hl] at hk; cases hk
  obtain ⟨before, after, hlist, -⟩ := List.lookup_eq_some_iff.1 hk
  simp [hlist] at h

/-- WRITE_VECTORS with another length than 4 + 13 × count (R178). -/
theorem serveWriteVectors_badLength {f : LinkFrame} (h : lengthFits f = false)
    (hk : f.kind = Kind.writeVectors) (s : State) :
    serveWriteVectors f.payload s = refuse .badLength s := by
  rw [lengthFits, if_pos hk] at h
  unfold serveWriteVectors
  split
  next body hp =>
    refine if_neg fun hbody => ?_
    simp only [hp, List.length_cons, List.getD_cons_succ, List.getD_cons_zero, hbody,
      Bool.and_eq_false_iff, decide_eq_false_iff_not] at h
    omega
  · rfl

/-- A payload of another length than those of the table is refused by its row's body. -/
theorem body_badLength {i : Instr} {f : LinkFrame} {body : List Byte → State → Served}
    (hw : i.kindWf = true) (hf : i.frame? = some f) (hb : bodyOf i = some body)
    (hk : isKnownKind f.kind = true) (hfit : lengthFits f = false) (s : State) :
    body f.payload s = refuse .badLength s := by
  have hlen : ∀ n, fixedLengths.lookup f.kind = some n → f.payload.length ≠ n :=
    fun _ => length_ne_of_not_lengthFits hfit
  cases i <;> cases hb <;> cases hf
  case badKind => simp [Instr.kindWf, hk] at hw
  case writeVectors => exact serveWriteVectors_badLength hfit rfl s
  case loadSnapshot => exact if_neg (Bool.eq_false_iff.1 hfit)
  case stageStatic => exact if_neg (hlen _ rfl)
  case loadReference => exact if_neg (hlen _ rfl)
  all_goals
    simp only [serveStatus, servePosition, serveResetEngine, serveNoticeMask,
      serveSetBank, serveSetIdlePolicy, serveApplyStatic, serveReadLanes, serveDefinePattern,
      serveDefineGenerator, serveReadVectors, serveDeletePattern, serveListPatterns,
      serveSetTiming, serveReadTiming, serveEditSlot, serveSetSlotCount, serveReadRotation,
      serveCommitRotation, serveWithdrawCommit, serveArm, serveDisarm, serveStart, serveStop,
      serveHold, serveContinueRun, serveRelease, serveAdvance, serveSplice, serveSuspend,
      serveResume, serveReadSnapshot, serveDiscardSnapshot, serveSetCheck, serveClearLane,
      serveReadFails, serveReadCounts, serveSurvey, serveReadNetMap, serveAdoptReference,
      serveClearReference, serveSetTrigger, serveCapture, serveReadCapture]
    split
    next hp => exact absurd (congrArg List.length hp) (hlen _ rfl)
    · rfl

/-- PACK_STORE has no payload (R178). -/
theorem packStore_badLength {f : LinkFrame} {s : State} (hp : f.payload ≠ []) :
    packStore f s = replied s f .badLength [] := by
  rw [packStore, if_pos hp, answered_refuse]

/-- Settles O9: BAD_KIND's row refuses every request it serves; a wrong length is refused by the
row's body, and by PACK_STORE, which has none, itself. -/
theorem badKindAndBadLengthAreAnswered : Obligations.BadKindAndBadLengthAreAnswered := by
  unfold Obligations.BadKindAndBadLengthAreAnswered
  refine ⟨fun f s hs hk hunknown => ?_, fun i f s hf hknown hw hs hfit => ?_⟩
  · have hw : (Instr.badKind f).kindWf = true := by
      simp [Instr.kindWf, (isRequestKind_iff _).2 hk, isKnownKind, hunknown]
    exact exec_of_refuse hw rfl rfl hs rfl
  · have hk : isKnownKind f.kind = true := by simpa [isKnownKind] using hknown
    cases hb : bodyOf i with
    | some body => exact exec_of_refuse hw hf hb hs (body_badLength hw hf hb hk hfit s)
    | none =>
      obtain ⟨r, rfl, rfl⟩ := packStore_of_bodyOf_none hf hb
      have hp := fun h => length_ne_of_not_lengthFits hfit rfl (List.length_eq_zero_iff.2 h)
      exact congrArg Host.Outcome.next ((serveFrame_serving hs _).trans (packStore_badLength hp))

/-! ## A request row's turn (R170, R171; log 1) -/

/-- Every request row is the service of its frame, by a work of the row's own. -/
theorem exec_eq_serveFrame {i : Instr} {f : LinkFrame} (hw : i.kindWf = true)
    (hf : i.frame? = some f) :
    ∃ work : State → State, ∀ s, exec i s = .next (serveFrame f work s) := by
  cases hb : bodyOf i with
  | some body => exact ⟨_, exec_eq_serveRequest hw hf hb⟩
  | none =>
    obtain ⟨r, rfl, rfl⟩ := packStore_of_bodyOf_none hf hb
    exact ⟨_, fun s => rfl⟩

/-- A row's frame is a request's (R170). -/
theorem isRequestKind_of_frame? {i : Instr} {f : LinkFrame} (hw : i.kindWf = true)
    (hf : i.frame? = some f) : isRequestKind f.kind = true := by
  cases i <;> cases hf
  case badKind =>
    simp only [Instr.kindWf, Bool.and_eq_true] at hw
    exact hw.1
  all_goals rfl

theorem submit_of_oldest {s : State} {f : LinkFrame} (h : s.link.requests.head? = some f) :
    s.submit f = s := if_pos (by simp [Link.oldestIs, h])

theorem submit_of_not_oldest {s : State} {f : LinkFrame} (h : s.link.requests.head? ≠ some f) :
    s.submit f = s.withLink (s.link.completeFrame f) := if_neg (by simp [Link.oldestIs, h])

/-- Behind an older request a frame is submitted and not served. -/
theorem serveFrame_behind {s : State} {f older : LinkFrame} {rest : List LinkFrame}
    (ho : s.operating = true) (hq : s.link.requests = older :: rest) (hne : older ≠ f)
    (work : State → State) :
    serveFrame f work s = s.withLink (s.link.completeFrame f) := by
  have hsubmit : s.submit f = s.withLink (s.link.completeFrame f) :=
    submit_of_not_oldest (by simpa [hq] using hne)
  have hhead : (s.link.completeFrame f).requests.head? = some older := by
    obtain ⟨-, h | h⟩ := completeFrame_keeps s.link f <;> simp [h, hq]
  have hno : (s.submit f).serves f = false := by
    simp [hsubmit, State.serves, Link.oldestIs, hhead, hne]
  simp [serveFrame, ho, hno, ← hsubmit]

theorem submit_operating (s : State) (f : LinkFrame) : (s.submit f).operating = s.operating := by
  unfold State.submit
  split
  · rfl
  · rw [State.operating, State.withLink_link, (completeFrame_keeps s.link f).1]
    rfl

/-- A frame that its submission makes the oldest request is served as if it had been that before. -/
theorem serveFrame_submit {s : State} {f : LinkFrame} (ho : s.operating = true)
    (h : (s.submit f).link.requests.head? = some f) (work : State → State) :
    serveFrame f work (s.submit f) = serveFrame f work s := by
  simp [serveFrame, submit_of_oldest h, submit_operating, ho]

/-- Settles O11: a request row is the service of its frame, which start-up ignores and an older
request holds up; with an empty queue the frame is submitted first. -/
theorem requestsWaitTheirTurn : Obligations.RequestsWaitTheirTurn := by
  unfold Obligations.RequestsWaitTheirTurn
  intro i f s hw hf
  obtain ⟨work, hexec⟩ := exec_eq_serveFrame hw hf
  refine ⟨fun hno => ?_, fun older rest ho hq hne => ?_, fun ho hfree hq hout hlen => ?_⟩
  · rw [hexec, serveFrame_startUp hno]
  · rw [hexec, serveFrame_behind ho hq hne, exec_frameComplete ho]
  · have hk := (isRequestKind_iff _).1 (isRequestKind_of_frame? hw hf)
    have hadmitted : s.link.completeFrame f =
        { s.link with framer := .hunting, requests := [f] } := by
      rw [completeFrame_of_le hlen, admission_of_room hk (by simp [hq]) (by simpa [hq] using hout)]
      simp [hq]
    have hsubmit : s.submit f =
        s.withLink { s.link with framer := .hunting, requests := [f] } := by
      rw [submit_of_not_oldest (by simp [hq]), hadmitted]
    rw [hexec, hexec]
    have hserved := serveFrame_submit ho (f := f) (by rw [hsubmit]; rfl) work
    rw [hsubmit] at hserved
    exact congrArg Host.Outcome.next hserved.symm

end Sys2Proof.Machine
end

section
/-! SUPPORT. What carrying out a request or an event does to the link before any reply: notices are
placed behind the frames that wait, and nothing else of the queues, the framer or the power moves
(R171, R172). -/

namespace Sys2Proof.Machine

open Safety

/-! ## The laws of the link, each on its own (R169, R170, R172, R173) -/

/-- The link with its mask and its framer in form: the bounds of the queues depend on neither. -/
def Link.queues (l : Link) : Link := { l with noticeMask := 0x0001, framer := .hunting }

/-- The law of the queues is the soundness of the link but for mask and framer. -/
theorem queueLaw_iff (s : State) : QueueLaw s ↔ s.link.queues.Sound :=
  ⟨fun ⟨hadmitted, hreserved, hnotices, hkinds⟩ =>
    have hmask : (0x0001 : BitVec 16) &&& 0xFE01 = 0x0001 := by decide
    ⟨hadmitted, hreserved, hnotices, hkinds, hmask, rfl⟩,
    fun h => ⟨h.admitted, h.reserved, h.notices, h.kinds⟩⟩

theorem notice_queues {l : Link} (h : l.queues.Sound) (k : NoticeKind) (p : List Byte) :
    (l.notice k p).queues.Sound := by
  rcases l.notice_cases k p with e | ⟨hcap, hfree, e⟩ | e <;> rw [e]
  · exact h
  · exact place_sound h hfree fun _ => hcap
  · exact { h with }

theorem answer_queues {l : Link} (h : l.queues.Sound) {f : LinkFrame} {rest : List LinkFrame}
    (hq : l.requests = f :: rest) (r : Reply) : (l.answer f r).queues.Sound :=
  answer_sound (l := l.queues) h hq r

/-! ## Notices placed behind the frames that wait -/

/-- From `l` to `m` notices joined the outbound queue, within its bounds; the requests, the framer
and the power are as they were, and the mask keeps its fixed bits. -/
structure Link.Grows (l m : Link) : Prop where
  power    : m.power = l.power
  framer   : m.framer = l.framer
  requests : m.requests = l.requests
  outbound : ∃ notices : List LinkFrame,
    (∀ g ∈ notices, g.tag = 0 ∧ 0xE0 ≤ g.kind.toNat) ∧ m.outbound = l.outbound ++ notices
  queues   : l.queues.Sound → m.queues.Sound
  mask     : l.noticeMask &&& 0xFE01 = 0x0001 → m.noticeMask &&& 0xFE01 = 0x0001

/-- Whatever of the link is neither queue, framer nor power, the mask keeping its fixed bits. -/
theorem Link.Grows.of_same {l m : Link} (hpower : m.power = l.power) (hframer : m.framer = l.framer)
    (hrequests : m.requests = l.requests) (houtbound : m.outbound = l.outbound)
    (hmask : l.noticeMask &&& 0xFE01 = 0x0001 → m.noticeMask &&& 0xFE01 = 0x0001) : l.Grows m where
  power := hpower
  framer := hframer
  requests := hrequests
  outbound := ⟨[], by simp, by simp [houtbound]⟩
  queues h := by
    refine { h with admitted := ?_, reserved := ?_, notices := ?_, kinds := ?_ }
    · exact hrequests ▸ h.admitted
    · exact hrequests ▸ houtbound ▸ h.reserved
    · exact le_of_eq_of_le (by simp [Link.notices, Link.queues, houtbound]) h.notices
    · exact hrequests ▸ h.kinds
  mask := hmask

theorem Link.Grows.refl (l : Link) : l.Grows l := .of_same rfl rfl rfl rfl id

theorem Link.Grows.trans {l m n : Link} (h : l.Grows m) (k : m.Grows n) : l.Grows n where
  power := k.power.trans h.power
  framer := k.framer.trans h.framer
  requests := k.requests.trans h.requests
  outbound := by
    obtain ⟨xs, hxs, hm⟩ := h.outbound
    obtain ⟨ys, hys, hn⟩ := k.outbound
    refine ⟨xs ++ ys, fun g hg => ?_, by rw [hn, hm, List.append_assoc]⟩
    exact (List.mem_append.1 hg).elim (hxs g) (hys g)
  queues := k.queues ∘ h.queues
  mask := k.mask ∘ h.mask

/-- A notice has tag 0 and a notice's kind (R168). -/
theorem notice_grows (l : Link) (k : NoticeKind) (p : List Byte) : l.Grows (l.notice k p) where
  power := l.notice_power k p
  framer := l.notice_framer k p
  requests := l.notice_requests k p
  outbound := by
    rcases l.notice_outbound k p with h | h
    · exact ⟨[], by simp, by simp [h]⟩
    · refine ⟨[k.frame p], fun g hg => ?_, h⟩
      rw [List.mem_singleton.1 hg]
      exact ⟨rfl, by simpa [LinkFrame.isNotice] using k.frame_isNotice p⟩
  queues h := notice_queues h k p
  mask h := by rwa [l.notice_noticeMask k p]

/-- From `s` to `t` the link grows by notices, and the model's queue of waiting commands stays. -/
structure Reports (s t : State) : Prop where
  pending : t.pending = s.pending
  link    : s.link.Grows t.link

theorem Reports.of_eq {s t : State} (hp : t.pending = s.pending) (hl : t.link = s.link) :
    Reports s t := ⟨hp, hl ▸ .refl _⟩

theorem Reports.refl (s : State) : Reports s s := .of_eq rfl rfl

theorem Reports.trans {s t u : State} (h : Reports s t) (k : Reports t u) : Reports s u :=
  ⟨k.pending.trans h.pending, h.link.trans k.link⟩

theorem notice_reports (s : State) (k : NoticeKind) (p : List Byte) : Reports s (s.notice k p) :=
  ⟨rfl, notice_grows _ _ _⟩

/-- Notices of a state that has the link and the queue of another. -/
theorem Reports.of_notice {s t : State} (h : Reports s t) (k : NoticeKind) (p : List Byte) :
    Reports s (t.notice k p) := h.trans (notice_reports t k p)

theorem Reports.operating {s t : State} (h : Reports s t) : t.operating = s.operating := by
  rw [State.operating, State.operating, h.link.power]

theorem withChecker_reports (s : State) (c : Checker) : Reports s (s.withChecker c) :=
  .of_eq rfl rfl

/-- What occurs or leaves the state as it is. -/
theorem ite_reports {c : Prop} [Decidable c] {s t : State} (h : c → Reports s t) :
    Reports s (if c then t else s) := by
  split
  next hc => exact h hc
  · exact .refl s

/-! ## The run (R66, R82, R85, R87, R94, R97) -/

theorem swapIfWaiting_reports (m : SwapManner) (s : State) : Reports s (swapIfWaiting m s) :=
  ite_reports fun _ => ⟨rfl, notice_grows _ _ _⟩

theorem runEnd_reports (c : StopCause) (s : State) : Reports s (runEnd c s) := by
  refine ⟨runEnd_pending c s, ?_⟩
  rw [runEnd_link]
  exact (swapIfWaiting_reports .runEnd s).link.trans (notice_grows _ _ _)

theorem enterLockout_reports (s : State) : Reports s (enterLockout s) :=
  (runEnd_reports .lockout s).of_notice _ _

theorem beginStep_reports (f : RunFrame) (v : VectorRec) (s : State) :
    Reports s (beginStep f v s) := by
  unfold beginStep
  dsimp only
  split
  · exact ⟨rfl, notice_grows _ _ _⟩
  · exact .of_eq rfl rfl

theorem consumeRelease_reports (v : VectorRec) (s : State) : Reports s (consumeRelease v s) :=
  .of_eq (consumeRelease_pending v s) (consumeRelease_link v s)

theorem stepStart_reports (s : State) : Reports s (stepStart s) := by
  unfold stepStart
  split
  · exact .refl s
  dsimp only
  split
  · exact .of_eq rfl rfl
  · have hstaged (v : VectorRec) : Reports s (stageStep v s) := .of_eq rfl rfl
    exact (hstaged _).trans ((consumeRelease_reports _ _).trans (beginStep_reports _ _ _))

/-- A step start leaves the link of a state with the link and the queue of another. -/
theorem Reports.stepStart {s t : State} (h : Reports s t) : Reports s (stepStart t) :=
  h.trans (stepStart_reports t)

theorem startWaitingStep_reports (s : State) : Reports s (startWaitingStep s) := by
  unfold startWaitingStep
  split
  · exact (consumeRelease_reports _ s).trans (beginStep_reports _ _ _)
  · exact .refl s

theorem settle_reports (m : Moved) (s : State) : Reports s (settle m s) := by
  unfold settle
  split
  · exact .of_eq rfl rfl
  have hswap := swapIfWaiting_reports .wrap s
  dsimp only
  split
  · exact hswap.trans (runEnd_reports .complete _)
  · exact hswap.trans (.of_eq rfl rfl)

theorem goOn_reports (s : State) : Reports s (goOn s) := ite_reports fun _ => stepStart_reports s

theorem takePending_reports (x : Splice) (s : State) : Reports s (takePending x s) :=
  ite_reports fun _ => Reports.stepStart (.of_eq rfl rfl)

theorem endMove_reports (f : RunFrame) (s : State) : Reports s (endMove f s) := by
  unfold endMove
  split
  · exact (settle_reports _ s).trans (takePending_reports _ _)
  split
  · have hlatch : Reports s (s.withEngine { s.engine with advanceLatch := false }) := .of_eq rfl rfl
    exact hlatch.trans ((settle_reports _ _).trans (goOn_reports _))
  · exact (settle_reports _ s).trans (goOn_reports _)

theorem rotationStepEnd_reports (s : State) : Reports s (rotationStepEnd s) := by
  have hcount : Reports s (countStep s) := .of_eq rfl rfl
  unfold rotationStepEnd
  dsimp only
  split
  · exact hcount.trans (runEnd_reports _ _)
  split
  · exact hcount.trans (endMove_reports _ _)
  · exact hcount

theorem startRun_reports (s : State) : Reports s (startRun s) := Reports.stepStart (.of_eq rfl rfl)

theorem acceptSplice_reports (x : Splice) (s : State) : Reports s (acceptSplice x s) := by
  unfold acceptSplice
  split
  · split
    · exact Reports.stepStart (.of_eq rfl rfl)
    · exact .of_eq rfl rfl
  · exact .of_eq rfl rfl

theorem stopped_reports (c : StopCause) (s : State) : Reports s (stopped c s) := by
  unfold stopped
  split
  · exact .of_eq rfl rfl
  · exact runEnd_reports c s

theorem released_reports (s : State) : Reports s (released s) := by
  unfold released
  split
  · exact startWaitingStep_reports s
  · exact .of_eq rfl rfl

theorem continueFrom_reports (o : HeldOrigin) (s : State) : Reports s (continueFrom o s) := by
  cases o with
  | running => exact .of_eq rfl rfl
  | waiting =>
    unfold continueFrom
    dsimp only
    split
    · exact startWaitingStep_reports s
    · exact .of_eq rfl rfl
  | boundary =>
    exact Reports.stepStart (t := s.withEngine { s.engine with mode := .running }) (.of_eq rfl rfl)

theorem engineReset_reports (s : State) : Reports s (engineReset s) := by
  have hblocks (t : State) : Reports t (resetBlocks t) := .of_eq rfl rfl
  exact (ite_reports fun _ => runEnd_reports .engineReset s).trans (hblocks _)

theorem resumeRun_reports (n : SnapshotId) (x : Snapshot) (s : State) :
    Reports s (resumeRun n x s) := Reports.stepStart (.of_eq rfl rfl)

/-! ## The strobe and the survey (R131 to R137, R151 to R154) -/

theorem failingStep_reports (m f o : LaneSet) (s : State) : Reports s (failingStep m f o s) := by
  refine ⟨failingStep_pending m f o s, ?_⟩
  unfold failingStep
  dsimp only
  rw [testStopOnFail_link]
  unfold notifyFirstFail
  split
  · exact .refl _
  · exact notice_grows _ _ _

theorem quarantineLanes_reports (o : LaneSet) (lanes : List Lane) (s : State) :
    Reports s (lanes.foldl (quarantineLane o) s) := by
  induction lanes generalizing s with
  | nil => exact .refl s
  | cons n lanes ih =>
    have hlane : Reports s (quarantineLane o s n) := ⟨rfl, notice_grows _ _ _⟩
    exact hlane.trans (ih _)

theorem quarantineAll_reports (o : LaneSet) (lanes : List Lane) (s : State) :
    Reports s (quarantineAll o lanes s) :=
  (quarantineLanes_reports o lanes s).trans (ite_reports fun _ => enterLockout_reports _)

theorem judge_reports (m f o : LaneSet) (s : State) : Reports s (judge m f o s) := by
  have hcount : Reports s (countStrobe m f s) := withChecker_reports s _
  have hfound : Reports s (if m ||| f = 0 then countStrobe m f s
      else failingStep m f o (countStrobe m f s)) := by
    split
    · exact hcount
    · exact hcount.trans (failingStep_reports m f o _)
  exact hfound.trans (quarantineAll_reports _ _ _)

theorem writeEntry_reports (a : Assembly) (s : State) : Reports s (writeEntry a s) := by
  unfold writeEntry
  split
  · exact .of_eq rfl rfl
  · exact .refl s

theorem surveyComplete_reports (s : State) : Reports s (surveyComplete s) := by
  have hmaps : Reports s (compareMaps s) := by
    unfold compareMaps
    rw [foldl_handRecord]
    exact .of_eq rfl rfl
  have hflag (t : State) : Reports t (t.withSurvey { t.survey with mapComplete := true }) :=
    .of_eq rfl rfl
  exact hmaps.trans ((hflag _).trans (runEnd_reports .complete _))

theorem surveyStepEnd_reports (s : State) : Reports s (surveyStepEnd s) := by
  have hcount : Reports s (countStep s) := .of_eq rfl rfl
  refine hcount.trans ?_
  unfold surveyStepEnd
  dsimp only
  split
  · exact runEnd_reports _ _
  split
  · exact .of_eq rfl rfl
  · exact surveyComplete_reports _

end Sys2Proof.Machine
end

section
/-! SUPPORT. Every request's body makes notices alone before its reply, and so every request but
PACK_STORE gets its one reply (R168, R171, R172). -/

namespace Sys2Proof.Machine

open Safety

/-! ## Checks -/

/-- The check of LOCKOUT reports what the request behind it reports. -/
theorem unlessLocked_reports {s : State} {k : Served} (h : Reports s k.1) :
    Reports s (unlessLocked s k).1 := by
  unfold unlessLocked
  split
  · exact .refl s
  · exact h

/-- So does a check that refuses. -/
theorem guard_reports {c : Prop} [Decidable c] {s : State} {st : Status} {k : Served}
    (h : ¬ c → Reports s k.1) : Reports s (if c then refuse st s else k).1 := by
  split
  · exact .refl s
  next hc => exact h hc

/-- And a request that its check accepts. -/
theorem accept_reports {c : Prop} [Decidable c] {s t : State} {st : Status} {results : List Byte}
    (h : Reports s t) : Reports s (if c then accept t results else refuse st s).1 := by
  split
  · exact h
  · exact .refl s

/-! ## The link's own requests (R99, R173) -/

/-- STATUS clears the two flags of the link. -/
theorem serveStatus_reports (p : List Byte) (s : State) : Reports s (serveStatus p s).1 := by
  unfold serveStatus
  split
  · exact ⟨rfl, .of_same rfl rfl rfl rfl id⟩
  · exact .refl s

/-- NOTICE_MASK leaves READY's bit set and bits 9 to 15 clear (R173). -/
theorem serveNoticeMask_reports (p : List Byte) (s : State) :
    Reports s (serveNoticeMask p s).1 := by
  unfold serveNoticeMask noticeMask
  split
  · exact unlessLocked_reports (guard_reports fun _ =>
      ⟨rfl, .of_same rfl rfl rfl rfl fun _ => maskOf_law _⟩)
  · exact .refl s

/-! ## The rotations and the run engine (R64, R76 to R90, R93, R100, R103) -/

theorem serveCommitRotation_reports (p : List Byte) (s : State) :
    Reports s (serveCommitRotation p s).1 := by
  unfold serveCommitRotation commitRotation
  split
  · refine unlessLocked_reports (guard_reports fun _ => guard_reports fun _ => ?_)
    split
    · exact .refl s
    split
    · exact .refl s
    split
    · exact .of_eq rfl rfl
    · exact ⟨rfl, notice_grows _ _ _⟩
  · exact .refl s

theorem serveResetEngine_reports (p : List Byte) (s : State) :
    Reports s (serveResetEngine p s).1 := by
  unfold serveResetEngine
  split
  · exact engineReset_reports s
  · exact .refl s

theorem serveStart_reports (p : List Byte) (s : State) : Reports s (serveStart p s).1 := by
  unfold serveStart start
  split
  · exact unlessLocked_reports (accept_reports (startRun_reports s))
  · exact .refl s

theorem serveStop_reports (p : List Byte) (s : State) : Reports s (serveStop p s).1 := by
  unfold serveStop stop
  split
  · exact unlessLocked_reports (guard_reports fun _ => stopped_reports _ s)
  · exact .refl s

theorem serveContinueRun_reports (p : List Byte) (s : State) :
    Reports s (serveContinueRun p s).1 := by
  unfold serveContinueRun continueRun
  split
  · refine unlessLocked_reports ?_
    split
    · exact continueFrom_reports _ s
    · exact .refl s
  · exact .refl s

theorem serveRelease_reports (p : List Byte) (s : State) : Reports s (serveRelease p s).1 := by
  unfold serveRelease release
  split
  · exact unlessLocked_reports (accept_reports (released_reports s))
  · exact .refl s

theorem serveSplice_reports (p : List Byte) (s : State) : Reports s (serveSplice p s).1 := by
  unfold serveSplice splice
  split
  · split
    · exact .refl s
    split
    · dsimp only
      split
      · exact .refl s
      · exact acceptSplice_reports _ s
    · exact .refl s
  · exact .refl s

/-! ## Snapshots (R117, R120) and the survey (R148) -/

theorem serveSuspend_reports (p : List Byte) (s : State) : Reports s (serveSuspend p s).1 := by
  unfold serveSuspend suspend
  split
  · refine unlessLocked_reports (guard_reports fun _ => ?_)
    split
    · exact .refl s
    · have hsaved (n : SnapshotId) (x : Snapshot) : Reports s (s.putSnapshot n x) := .of_eq rfl rfl
      exact guard_reports fun _ => (hsaved _ _).trans (runEnd_reports .suspended _)
  · exact .refl s

theorem serveResume_reports (p : List Byte) (s : State) : Reports s (serveResume p s).1 := by
  unfold serveResume resume
  split
  · refine unlessLocked_reports (guard_reports fun _ => ?_)
    split
    · exact .refl s
    refine guard_reports fun _ => ?_
    split
    · exact .refl s
    · exact resumeRun_reports _ _ s
  · exact .refl s

/-! ## Requests that write the lanes, the lane counts or the reference map -/

theorem withOutput_reports (s : State) (o : Output) : Reports s (s.withOutput o) := .of_eq rfl rfl

theorem withSurvey_reports (s : State) (v : Survey) : Reports s (s.withSurvey v) := .of_eq rfl rfl

theorem serveStageStatic_reports (p : List Byte) (s : State) :
    Reports s (serveStageStatic p s).1 := by
  unfold serveStageStatic stageStatic
  split
  · exact unlessLocked_reports (guard_reports fun _ => withOutput_reports s _)
  · exact .refl s

theorem serveApplyStatic_reports (p : List Byte) (s : State) :
    Reports s (serveApplyStatic p s).1 := by
  unfold serveApplyStatic applyStatic
  split
  · exact unlessLocked_reports (guard_reports fun _ => withOutput_reports s _)
  · exact .refl s

theorem serveClearLane_reports (p : List Byte) (s : State) : Reports s (serveClearLane p s).1 := by
  unfold serveClearLane clearLane
  split
  · exact unlessLocked_reports (guard_reports fun _ => withChecker_reports s _)
  · exact .refl s

theorem serveLoadReference_reports (p : List Byte) (s : State) :
    Reports s (serveLoadReference p s).1 := by
  unfold serveLoadReference loadReference
  split
  · refine unlessLocked_reports (guard_reports fun _ => ?_)
    split
    · exact .refl s
    · exact withSurvey_reports s _
  · exact .refl s

theorem serveAdoptReference_reports (p : List Byte) (s : State) :
    Reports s (serveAdoptReference p s).1 := by
  unfold serveAdoptReference adoptReference
  split
  · exact unlessLocked_reports (guard_reports fun _ => guard_reports fun _ =>
      withSurvey_reports s _)
  · exact .refl s

/-! ## Every request -/

/-- Every request's body reports: those above by their own lemmas, and the others because no branch
of theirs touches the link. -/
theorem body_reports {i : Instr} {body : List Byte → State → Served} (hb : bodyOf i = some body)
    (p : List Byte) (s : State) : Reports s (body p s).1 := by
  cases i <;> cases hb
  case status => exact serveStatus_reports p s
  case noticeMask => exact serveNoticeMask_reports p s
  case commitRotation => exact serveCommitRotation_reports p s
  case resetEngine => exact serveResetEngine_reports p s
  case start => exact serveStart_reports p s
  case stop => exact serveStop_reports p s
  case continueRun => exact serveContinueRun_reports p s
  case release => exact serveRelease_reports p s
  case splice => exact serveSplice_reports p s
  case suspend => exact serveSuspend_reports p s
  case resume => exact serveResume_reports p s
  case stageStatic => exact serveStageStatic_reports p s
  case applyStatic => exact serveApplyStatic_reports p s
  case clearLane => exact serveClearLane_reports p s
  case loadReference => exact serveLoadReference_reports p s
  case adoptReference => exact serveAdoptReference_reports p s
  all_goals
    simp only [servePosition, serveSetBank, serveSetIdlePolicy, serveReadLanes, serveDefinePattern,
      serveDefineGenerator, serveWriteVectors, serveReadVectors, serveDeletePattern,
      serveListPatterns, serveSetTiming, serveReadTiming, serveEditSlot, serveSetSlotCount,
      serveReadRotation, serveWithdrawCommit, serveArm, serveDisarm, serveHold, serveAdvance,
      serveReadSnapshot, serveLoadSnapshot, serveDiscardSnapshot, serveSetCheck, serveReadFails,
      serveReadCounts, serveSurvey, serveReadNetMap, serveClearReference, serveSetTrigger,
      serveCapture, serveReadCapture, setBank, setIdlePolicy, readLanes, definePattern,
      defineGenerator, writeVectors, readVectors, deletePattern, listPatterns, setTiming,
      readTiming, editSlot, setSlotCount, readRotation, withdrawCommit, arm, disarm, hold, advance,
      readSnapshot, loadSnapshot, discardSnapshot, setCheck, readFails, readCounts, survey,
      clearReference, setTrigger, setSpliceTrigger, writeTrigger, capture, unlessLocked]
    repeat' split
    all_goals exact .of_eq rfl rfl

/-- Settles O10: the body makes its notices, and the reply is placed behind them. -/
theorem everyRequestGetsOneReply : Obligations.EveryRequestGetsOneReply := by
  unfold Obligations.EveryRequestGetsOneReply
  intro i f s hw hf hk hs
  cases hb : bodyOf i with
  | none =>
    obtain ⟨r, rfl, rfl⟩ := packStore_of_bodyOf_none hf hb
    exact absurd rfl hk
  | some body =>
    obtain ⟨-, hlink⟩ := body_reports hb f.payload s
    obtain ⟨notices, hnotices, houtbound⟩ := hlink.outbound
    refine ⟨_, notices, (body f.payload s).2.status, (body f.payload s).2.results,
      exec_serving hw hf hb hs, ?_, hnotices, ?_⟩
    · rw [answered_link, Link.answer_requests, hlink.requests]
    · rw [answered_link, Link.answer_outbound, houtbound]
      rfl

end Sys2Proof.Machine
end

section
/-! SUPPORT. Every row answers a next state, leaves the queue of waiting commands alone and keeps
the laws of the link, and so does every step (R169, R170, R172, R173, R176). -/

namespace Sys2Proof.Machine

open Safety

/-! ## Every row answers (log 2) -/

/-- The model stops nowhere: a row is a next state, also where its event cannot occur (log 2). -/
theorem exec_next (i : Instr) (s : State) : ∃ t, exec i s = .next t := by
  cases i
  case packComplete =>
    simp only [exec, execPackComplete]
    split
    · exact ⟨_, rfl⟩
    · exact ⟨_, rfl⟩
  case spliceTrigger =>
    simp only [exec, execSpliceTrigger]
    split
    · exact ⟨_, rfl⟩
    · exact ⟨_, rfl⟩
  all_goals exact ⟨_, rfl⟩

/-! ## The laws of the link, each kept on its own -/

/-- From `s` to `t` the queue of waiting commands stays, and each law of the link is kept. -/
structure KeepsLink (s t : State) : Prop where
  pending : t.pending = s.pending
  queue   : QueueLaw s → QueueLaw t
  startUp : StartUpLaw s → StartUpLaw t
  mask    : MaskLaw s → MaskLaw t
  framer  : FramerLaw s → FramerLaw t

theorem KeepsLink.refl (s : State) : KeepsLink s s := ⟨rfl, id, id, id, id⟩

theorem KeepsLink.trans {s t u : State} (h : KeepsLink s t) (k : KeepsLink t u) : KeepsLink s u :=
  ⟨k.pending.trans h.pending, k.queue ∘ h.queue, k.startUp ∘ h.startUp, k.mask ∘ h.mask,
    k.framer ∘ h.framer⟩

/-- While the part operates the law of start-up asks nothing (R176). -/
theorem startUpLaw_of_operating {s : State} (h : s.operating = true) : StartUpLaw s := fun hno =>
  absurd (h.symm.trans hno) (by decide)

/-- The law of start-up says where the part operates: where the engine is not IDLE, and where a
request waits (R176). -/
theorem operating_of_ne_idle {s : State} (hm : s.engine.mode ≠ .idle) (h : StartUpLaw s) :
    s.operating = true := by
  by_contra hno
  exact hm (h (by simpa using hno)).2.2

theorem operating_of_request {s : State} {f : LinkFrame} {rest : List LinkFrame}
    (hq : s.link.requests = f :: rest) (h : StartUpLaw s) : s.operating = true := by
  by_contra hno
  rw [(h (by simpa using hno)).1] at hq
  cases hq

/-- What only makes notices, in a part that operates. -/
theorem Reports.keepsLink {s t : State} (h : Reports s t)
    (ho : StartUpLaw s → s.operating = true) : KeepsLink s t where
  pending := h.pending
  queue hq := (queueLaw_iff t).2 (h.link.queues ((queueLaw_iff s).1 hq))
  startUp hs := startUpLaw_of_operating (h.operating.trans (ho hs))
  mask := h.link.mask
  framer hf := by rwa [FramerLaw, h.link.framer]

/-- Another link, in a part that operates before and after. -/
theorem withLink_keepsLink {s : State} {l : Link} (ho : s.operating = true)
    (hpower : l.power = s.link.power) (hqueues : s.link.queues.Sound → l.queues.Sound)
    (hmask : l.noticeMask = s.link.noticeMask)
    (hframer : framerInForm s.link.framer = true → framerInForm l.framer = true) :
    KeepsLink s (s.withLink l) where
  pending := rfl
  queue hq := (queueLaw_iff _).2 (hqueues ((queueLaw_iff s).1 hq))
  startUp _ := startUpLaw_of_operating ((operating_iff _).2 (hpower.trans ((operating_iff s).1 ho)))
  mask hm := by rwa [MaskLaw, State.withLink_link, hmask]
  framer := hframer

/-! ## Frames and characters (R169, R170) -/

theorem discard_queues {l : Link} (h : l.queues.Sound) : l.discard.queues.Sound :=
  discard_sound (l := l.queues) h

/-- Admission reads neither the mask nor the framer. -/
theorem admission_queues (l : Link) (f : LinkFrame) :
    (l.admission f).queues = l.queues.admission f := by
  have hfree : l.queues.freeEntries = l.freeEntries := rfl
  unfold Link.admission
  rw [hfree]
  split
  · rfl
  split
  next h => exact (if_pos h).symm
  next h =>
    refine Eq.trans ?_ (if_neg h).symm
    split <;> rfl

theorem completeFrame_queues {l : Link} (h : l.queues.Sound) (f : LinkFrame) :
    (l.completeFrame f).queues.Sound := by
  unfold Link.completeFrame
  split
  · rw [admission_queues]
    exact admission_sound h f
  · exact discard_queues h

theorem completeFrame_noticeMask (l : Link) (f : LinkFrame) :
    (l.completeFrame f).noticeMask = l.noticeMask := by
  unfold Link.completeFrame Link.admission Link.discard Link.place
  repeat' split
  all_goals rfl

/-- After a frame's end the framer hunts (R169, R170; log 8). -/
theorem completeFrame_framer (l : Link) (f : LinkFrame) :
    (l.completeFrame f).framer = .hunting := by
  unfold Link.completeFrame Link.admission Link.discard Link.place
  repeat' split
  all_goals rfl

theorem completeFrame_keepsLink {s : State} (ho : s.operating = true) (f : LinkFrame) :
    KeepsLink s (s.withLink (s.link.completeFrame f)) :=
  withLink_keepsLink ho (completeFrame_keeps _ _).1 (fun h => completeFrame_queues h f)
    (completeFrame_noticeMask _ _) fun _ => by rw [completeFrame_framer]; rfl

theorem discard_keepsLink {s : State} (ho : s.operating = true) :
    KeepsLink s (s.withLink s.link.discard) :=
  withLink_keepsLink ho rfl discard_queues rfl fun _ => rfl

/-- All a character can do: move the framer, in form, discard the frame in progress, or complete
it (R169). -/
theorem character_cases (l : Link) (b : Byte) (stopBit : Bool) :
    (∃ x, (framerInForm l.framer = true → framerInForm x = true) ∧
      l.character b stopBit = { l with framer := x }) ∨
    l.character b stopBit = l.discard ∨ ∃ f, l.character b stopBit = l.completeFrame f := by
  unfold Link.character
  split
  · split
    · exact .inl ⟨.inFrame [] 0, fun _ => rfl, rfl⟩
    · exact .inl ⟨l.framer, id, rfl⟩
  split
  · unfold Link.takeBytes
    split
    · exact .inr (.inl rfl)
    next hlen =>
      split
      next hmore =>
        refine .inl ⟨_, fun _ => ?_, rfl⟩
        simp only [framerInForm, Bool.and_eq_true, decide_eq_true_eq]
        exact ⟨Nat.not_lt.1 hlen, hmore⟩
      · split
        · exact .inr (.inr ⟨_, rfl⟩)
        · exact .inr (.inl rfl)
  · exact .inr (.inl rfl)

theorem character_keepsLink {s : State} (ho : s.operating = true) (b : Byte) (stopBit : Bool) :
    KeepsLink s (s.withLink (s.link.character b stopBit)) := by
  rcases character_cases s.link b stopBit with ⟨x, hx, e⟩ | e | ⟨f, e⟩ <;> rw [e]
  · exact withLink_keepsLink ho rfl id rfl hx
  · exact discard_keepsLink ho
  · exact completeFrame_keepsLink ho f

/-- FRAME_SENT also where the part does not operate: its queue is empty then (R176). -/
theorem frameSent_keepsLink (s : State) :
    KeepsLink s (s.withLink { s.link with outbound := s.link.outbound.tail }) where
  pending := rfl
  queue hq := (queueLaw_iff _).2 (sent_sound ((queueLaw_iff s).1 hq))
  startUp hs hno := by
    obtain ⟨hreq, hout, hm⟩ := hs hno
    exact ⟨hreq, by simp [hout], hm⟩
  mask := id
  framer := id

/-! ## Reset, start-up and the tick (R169, R176) -/

theorem fullReset_keepsLink (straps : BitVec 2) (s : State) : KeepsLink s (fullReset straps s) :=
  ⟨rfl, fun _ => lawfulAtReset.queue, fun _ => lawfulAtReset.startUp, fun _ => lawfulAtReset.mask,
    fun _ => lawfulAtReset.framer⟩

theorem finishStartUp_keepsLink (a b : Bool) (s : State) : KeepsLink s (finishStartUp a b s) := by
  have hready := notice_grows { s.link with power := .operating } .ready readyPayload
  exact
    { pending := rfl
      queue := fun hq => (queueLaw_iff _).2 (hready.queues
        ((queueLaw_iff (s.withLink { s.link with power := .operating })).1 hq))
      startUp := fun _ => startUpLaw_of_operating ((operating_iff _).2 hready.power)
      mask := hready.mask
      framer := fun hf => by rwa [FramerLaw, finishStartUp, hready.framer] }

theorem tick_keepsLink (s : State) : KeepsLink s (tick s) where
  pending := rfl
  queue := id
  startUp hs hno := by
    refine hs (by_contra fun hop => ?_)
    rw [Bool.not_eq_false, operating_iff] at hop
    simp [State.operating, tick, Link.tick, hop, Power.tick] at hno
  mask := id
  framer hf := by
    cases hl : s.link.framer with
    | hunting => simp [FramerLaw, tick, Link.tick, hl, Framer.tick, framerInForm]
    | inFrame bytes gap =>
      rw [FramerLaw, hl] at hf
      simpa [FramerLaw, tick, Link.tick, hl, Framer.tick, framerInForm] using hf

/-! ## Requests (R170, R171) -/

/-- A reply in its reserved entry: the request it answers leaves the queue (R171). -/
theorem answered_keepsLink {s : State} {f : LinkFrame} {rest : List LinkFrame}
    (hq : s.link.requests = f :: rest) {w : Served} (h : Reports s w.1) :
    KeepsLink s (answered f w) := by
  have hwork := h.keepsLink (operating_of_request hq)
  refine hwork.trans ⟨rfl, fun hqueue => ?_, fun hs => ?_, id, id⟩
  · exact (queueLaw_iff _).2
      (answer_queues ((queueLaw_iff _).1 hqueue) (h.link.requests.trans hq) w.2)
  · have ho : w.1.operating = true := operating_of_request (h.link.requests.trans hq) hs
    exact startUpLaw_of_operating ho

/-- A request row keeps the laws if its work does on a state that it serves. -/
theorem serveFrame_keepsLink {f : LinkFrame} {work : State → State}
    (hw : ∀ t, Serving t f → KeepsLink t (work t)) (s : State) :
    KeepsLink s (serveFrame f work s) := by
  by_cases ho : s.operating = true
  · have hcomplete := completeFrame_keepsLink ho f
    rcases serveFrame_cases s f work with e | e | ⟨e, hserving⟩ <;> rw [e]
    · exact .refl s
    · exact hcomplete
    · refine KeepsLink.trans ?_ (hw _ hserving)
      unfold State.submit
      split
      · exact .refl s
      · exact hcomplete
  · rw [serveFrame_startUp (by simpa using ho)]
    exact .refl s

/-- A row's outcome keeps what the state in it keeps. -/
theorem next_keepsLink {s t u : State} (h : KeepsLink s u)
    (e : (Host.Outcome.next u : Host.Outcome State Fault Refusal) = .next t) : KeepsLink s t :=
  Host.Outcome.next.inj e ▸ h

/-- Every row answered at once keeps the laws: by its body's notices and its reply where its kind is
well-formed, and by not occurring otherwise. -/
theorem request_keepsLink {i : Instr} {body : List Byte → State → Served} {s t : State}
    (hb : bodyOf i = some body) (h : exec i s = .next t) : KeepsLink s t := by
  by_cases hk : i.kindWf = true
  · obtain ⟨f, hf⟩ := frame?_of_bodyOf hb
    rw [exec_eq_serveRequest hk hf hb] at h
    refine next_keepsLink (serveFrame_keepsLink (fun t hs => ?_) s) h
    obtain ⟨rest, hq⟩ := List.head?_eq_some_iff.1 hs.oldest
    exact answered_keepsLink hq (body_reports hb f.payload t)
  · rw [exec_of_not_kindWf hk] at h
    exact next_keepsLink (.refl s) h

theorem withStore_reports (s : State) (x : Store) : Reports s (s.withStore x) := .of_eq rfl rfl

theorem packStore_keepsLink {f : LinkFrame} {s : State} (hs : Serving s f) :
    KeepsLink s (packStore f s) := by
  obtain ⟨rest, hq⟩ := List.head?_eq_some_iff.1 hs.oldest
  have hrefuse (st : Status) : KeepsLink s (answered f (refuse st s)) :=
    answered_keepsLink hq (.refl s)
  unfold packStore
  split
  · exact hrefuse _
  split
  · exact hrefuse _
  split
  · exact hrefuse _
  split
  · exact answered_keepsLink hq (withStore_reports s _)
  · exact (withStore_reports s _).keepsLink fun _ => hs.operating

/-! ## Events (R47, R54, R87, R113, R151, R163) -/

/-- An event that occurs or leaves the state as it is keeps what its occurrence keeps. -/
theorem ite_keepsLink {c : Prop} [Decidable c] {s t : State} (h : c → KeepsLink s t) :
    KeepsLink s (if c then t else s) := by
  split
  next hc => exact h hc
  · exact .refl s

theorem withTrigger_reports (s : State) (t : Trigger) : Reports s (s.withTrigger t) :=
  .of_eq rfl rfl

/-- A trigger row occurs while the part operates (R161). -/
theorem triggerRow_keepsLink {act : State → State} (h : ∀ t, Reports t (act t)) (input : TrigInput)
    (action : TrigAction) (s : State) : KeepsLink s (triggerRow input action act s) :=
  ite_keepsLink fun hd =>
    ((withTrigger_reports s _).trans (h _)).keepsLink fun _ => operating_of_delivery hd

theorem captureAction_reports (input : TrigInput) (s : State) : Reports s (captureAction input s) :=
  ite_reports fun _ => (withTrigger_reports s _).of_notice _ _

theorem spliceAction_reports (input : TrigInput) (x : Splice) (s : State) :
    Reports s (spliceAction input x s) := by
  unfold spliceAction
  split
  · exact notice_reports s _ _
  · exact acceptSplice_reports x s

theorem latchAdvance_reports (s : State) : Reports s (latchAdvance s) := .of_eq rfl rfl

/-- An event of a run in RUNNING or WAITING occurs while the part operates (R176). -/
theorem Reports.keepsLink_of_mode {s t : State} (h : Reports s t) {m : EngineState}
    (hm : s.engine.mode = m) (hne : m ≠ .idle) : KeepsLink s t :=
  h.keepsLink (operating_of_ne_idle (hm ▸ hne))

theorem reachStrobe_reports (s : State) : Reports s (reachStrobe s) := .of_eq rfl rfl

/-- Every other row, an event or PACK_STORE, keeps the laws. -/
theorem event_keepsLink {i : Instr} {s t : State} (hb : bodyOf i = none)
    (h : exec i s = .next t) : KeepsLink s t := by
  cases i <;> cases hb
  case fullReset straps => exact next_keepsLink (fullReset_keepsLink straps s) h
  case resetnDeasserted straps =>
    refine next_keepsLink ?_ h
    split
    · exact .refl s
    · exact fullReset_keepsLink straps s
  case startUpEnd a b =>
    refine next_keepsLink ?_ h
    split
    · exact .refl s
    · exact finishStartUp_keepsLink a b s
  case frameComplete f =>
    exact next_keepsLink (ite_keepsLink fun ho => completeFrame_keepsLink ho f) h
  case characterReceived b stopBit =>
    exact next_keepsLink (ite_keepsLink fun ho => character_keepsLink ho b stopBit) h
  case byteGapTimeout =>
    refine next_keepsLink (ite_keepsLink fun hc => ?_) h
    rw [Bool.and_eq_true] at hc
    exact discard_keepsLink hc.1
  case frameSent => exact next_keepsLink (frameSent_keepsLink s) h
  case packStore => exact next_keepsLink (serveFrame_keepsLink (fun _ => packStore_keepsLink) s) h
  case packComplete =>
    revert h
    simp only [exec, execPackComplete]
    split
    next hq => exact next_keepsLink (answered_keepsLink hq (withStore_reports s _))
    · exact next_keepsLink (.refl s)
  case triggerLevelChange => exact next_keepsLink (triggerRow_keepsLink Reports.refl _ _ s) h
  case startTrigger =>
    exact next_keepsLink
      (triggerRow_keepsLink (fun u => ite_reports fun _ => startRun_reports u) _ _ s) h
  case stopTrigger =>
    exact next_keepsLink
      (triggerRow_keepsLink (fun u => ite_reports fun _ => stopped_reports _ u) _ _ s) h
  case releaseTrigger =>
    exact next_keepsLink
      (triggerRow_keepsLink (fun u => ite_reports fun _ => released_reports u) _ _ s) h
  case advanceTrigger =>
    exact next_keepsLink
      (triggerRow_keepsLink (fun u => ite_reports fun _ => latchAdvance_reports u) _ _ s) h
  case captureTrigger input =>
    exact next_keepsLink (triggerRow_keepsLink (captureAction_reports input) _ _ s) h
  case spliceTrigger input =>
    revert h
    simp only [exec, execSpliceTrigger]
    split
    next hd =>
      exact next_keepsLink (((withTrigger_reports s _).trans
        (spliceAction_reports input _ _)).keepsLink fun _ => operating_of_delivery hd)
    · exact next_keepsLink (.refl s)
  case strobe =>
    refine next_keepsLink (ite_keepsLink fun hdue => ?_) h
    obtain ⟨hm, -⟩ := (strobes_iff_strobeDue s _).1 hdue
    exact ((reachStrobe_reports s).trans (judge_reports _ _ _ _)).keepsLink_of_mode hm nofun
  case stepEnd =>
    refine next_keepsLink (ite_keepsLink fun hdue => ?_) h
    obtain ⟨hm, -⟩ := (stepEnds_iff_stepEndDue s _).1 hdue
    exact (rotationStepEnd_reports s).keepsLink_of_mode hm nofun
  case waitTimeout =>
    refine next_keepsLink (ite_keepsLink fun hdue => ?_) h
    simp only [Bool.and_eq_true, decide_eq_true_eq] at hdue
    exact (runEnd_reports _ s).keepsLink_of_mode hdue.1 nofun
  case surveyStrobe a =>
    refine next_keepsLink (ite_keepsLink fun hdue => ?_) h
    obtain ⟨hm, -⟩ := (strobes_iff_strobeDue s _).1 hdue
    exact ((reachStrobe_reports s).trans ((writeEntry_reports a _).trans
      (judge_reports _ _ _ _))).keepsLink_of_mode hm nofun
  case surveyStepEnd =>
    refine next_keepsLink (ite_keepsLink fun hdue => ?_) h
    obtain ⟨hm, -⟩ := (stepEnds_iff_stepEndDue s _).1 hdue
    exact (surveyStepEnd_reports s).keepsLink_of_mode hm nofun

theorem exec_keepsLink {i : Instr} {s t : State} (h : exec i s = .next t) : KeepsLink s t := by
  cases hb : bodyOf i with
  | some body => exact request_keepsLink hb h
  | none => exact event_keepsLink hb h

/-- Settles O3: every row answers, and none touches the queue of waiting commands. -/
theorem everyCommandAnswersANextState : Obligations.EveryCommandAnswersANextState := by
  unfold Obligations.EveryCommandAnswersANextState
  intro c s
  obtain ⟨t, h⟩ := exec_next c s
  exact ⟨t, h, (exec_keepsLink h).pending⟩

/-! ## Every step -/

/-- Settles O57: a step is a tick or a row, and both keep the laws of the link, each on its own; the
queue of waiting commands is no part of them. -/
theorem stepKeepsTheLinkLaws : Obligations.StepKeepsTheLinkLaws := by
  unfold Obligations.StepKeepsTheLinkLaws
  intro s t h
  unfold step at h
  split at h
  · obtain ⟨-, hqueue, hstart, hmask, hframer⟩ := next_keepsLink (tick_keepsLink s) h
    exact ⟨hqueue, hstart, hmask, hframer⟩
  · obtain ⟨-, hqueue, hstart, hmask, hframer⟩ := exec_keepsLink h
    exact ⟨hqueue, hstart, hmask, hframer⟩

end Sys2Proof.Machine
end
